-- ==== Sys2Proof/Word.lean ====
section
/-! DEFINITION. The word types of the bas2wav cassette-tone encoder (CTE). -/

namespace Sys2Proof

/-- A 32-bit word: a command word or a register's bus image (10_state.md rule R28, 30_encoding.md rule R70). -/
abbrev Word := BitVec 32

/-- A byte of the program buffer, of a segment's payload, or a sample's pattern on the wire (rules R21, R40). -/
abbrev Byte := BitVec 8

/-- A byte address on the host bus (20_memory.md rule R50). -/
abbrev BusAddr := BitVec 17

end Sys2Proof
end

