-- ==== Sys2Proof/Syntax.lean ====
section
/-! DEFINITION. The command set CTE-CMD v1 (30_encoding.md rules R70 to R75): one constructor per row of
spec/opcode_table.json. -/

namespace Sys2Proof

/-- The four fixed frequencies, FSEL = 0 to 3 (30_encoding.md rule R72). -/
inductive Freq where
  | f770
  | f1000
  | f2000
  | f2500
  deriving DecidableEq, Repr

/-- A half cycle's polarity, POL = 0 and 1 (30_encoding.md rule R73). -/
inductive Polarity where
  | high
  | low
  deriving DecidableEq, Repr

/-- The nine commands of CTE-CMD v1 (30_encoding.md rule R75). `n` is the 24-bit sample count N of rule R74, `v` the bit V,
`d` the byte D. -/
inductive Instr where
  | tone (f : Freq) (n : Nat)
  | cycle (f : Freq)
  | half (f : Freq) (p : Polarity)
  | silence (n : Nat)
  | bit (v : Bool)
  | byte (d : Byte)
  | frameMeta
  | frameProg
  | encode
  deriving DecidableEq, Repr

end Sys2Proof
end

