-- ==== Sys2Proof/WellFormed.lean ====
section
/-! DEFINITION. Which instruction terms a command word can carry: the sample count N of TONE and SILENCE has 24 bits
(30_encoding.md rule R74, 00_scope.md rule R9). Every other operand's type already is its field. -/

namespace Sys2Proof

/-- N is in the range 0 to 16777215 (30_encoding.md rule R74). -/
def Instr.wf : Instr → Bool
  | .tone _ n => decide (n < 2 ^ 24)
  | .cycle _ => true
  | .half _ _ => true
  | .silence n => decide (n < 2 ^ 24)
  | .bit _ => true
  | .byte _ => true
  | .frameMeta => true
  | .frameProg => true
  | .encode => true

/-- The instruction is one a command word can carry. -/
abbrev Instr.WellFormed (i : Instr) : Prop := i.wf = true

end Sys2Proof
end

