-- ==== Sys2Proof/Decode.lean ====
section
/-! DEFINITION. Command decoding (30_encoding.md rules R70 to R78), total on all 2^32 words, rejecting by name; then the
encoder, written from the same formats; then the assembler lines and pseudo-instructions of rules R79 and R80. -/

namespace Sys2Proof

/-- Why a word is illegal (30_encoding.md rule R77). -/
inductive DecodeError where
  /-- OP is 0x0 or 0xA to 0xF. -/
  | illegalOpcode
  /-- OP is legal and a bit that its format marks reserved is 1. -/
  | reservedBitSet
  deriving DecidableEq, Repr

/-- OP = w[31:28] (rule R71). -/
def opField (w : Word) : BitVec 4 := w.extractLsb' 28 4

/-- FSEL = w[27:26] (rule R71). -/
def fselField (w : Word) : BitVec 2 := w.extractLsb' 26 2

/-- POL = w[25] (rule R71). -/
def polField (w : Word) : Bool := w.getLsbD 25

/-- N = zext(w[23:0]) (rule R74). -/
def countField (w : Word) : Nat := (w.extractLsb' 0 24).toNat

/-- V = w[0] (rule R71). -/
def bitField (w : Word) : Bool := w.getLsbD 0

/-- D = w[7:0] (rule R71). -/
def byteField (w : Word) : Byte := w.extractLsb' 0 8

/-- The frequency an FSEL selects; every value is legal (rule R72). -/
def freqOfFsel (b : BitVec 2) : Freq :=
  if b = 0b00#2 then .f770 else if b = 0b01#2 then .f1000 else if b = 0b10#2 then .f2000 else .f2500

/-- The FSEL that selects a frequency (rule R72). -/
def Freq.fsel : Freq → BitVec 2
  | .f770 => 0b00#2
  | .f1000 => 0b01#2
  | .f2000 => 0b10#2
  | .f2500 => 0b11#2

/-- POL = 0 is high, POL = 1 is low (rule R73). -/
def polarityOfPol : Bool → Polarity
  | false => .high
  | true => .low

/-- The POL bit of a polarity (rule R73). -/
def Polarity.pol : Polarity → BitVec 1
  | .high => 0#1
  | .low => 1#1

/-- A word of the row's OP encodes its instruction exactly when `(w & mask) = match` (rule R75); otherwise a reserved
bit is set (rule R77). -/
def decodeRow (w matchWord mask : Word) (i : Instr) : Except DecodeError Instr :=
  if w &&& mask = matchWord then .ok i else .error .reservedBitSet

/-- The opcode map (rule R75), total on all words (rule R76). -/
def decode (w : Word) : Except DecodeError Instr :=
  if opField w = 0x1#4 then decodeRow w 0x10000000#32 0xF3000000#32 (.tone (freqOfFsel (fselField w)) (countField w))
  else if opField w = 0x2#4 then decodeRow w 0x20000000#32 0xF3FFFFFF#32 (.cycle (freqOfFsel (fselField w)))
  else if opField w = 0x3#4 then
    decodeRow w 0x30000000#32 0xF1FFFFFF#32 (.half (freqOfFsel (fselField w)) (polarityOfPol (polField w)))
  else if opField w = 0x4#4 then decodeRow w 0x40000000#32 0xFF000000#32 (.silence (countField w))
  else if opField w = 0x5#4 then decodeRow w 0x50000000#32 0xFFFFFFFE#32 (.bit (bitField w))
  else if opField w = 0x6#4 then decodeRow w 0x60000000#32 0xFFFFFF00#32 (.byte (byteField w))
  else if opField w = 0x7#4 then decodeRow w 0x70000000#32 0xFFFFFFFF#32 .frameMeta
  else if opField w = 0x8#4 then decodeRow w 0x80000000#32 0xFFFFFFFF#32 .frameProg
  else if opField w = 0x9#4 then decodeRow w 0x90000000#32 0xFFFFFFFF#32 .encode
  else .error .illegalOpcode

/-- The command word of an instruction: the formats T, C, H, S, B1, B8 and Z of rule R71, high field first. -/
def encode : Instr → Word
  | .tone f n => 0x1#4 ++ f.fsel ++ 0#2 ++ BitVec.ofNat 24 n
  | .cycle f => 0x2#4 ++ f.fsel ++ 0#26
  | .half f p => 0x3#4 ++ f.fsel ++ p.pol ++ 0#25
  | .silence n => 0x4#4 ++ 0#4 ++ BitVec.ofNat 24 n
  | .bit v => 0x5#4 ++ 0#27 ++ BitVec.ofBool v
  | .byte d => 0x6#4 ++ 0#20 ++ d
  | .frameMeta => 0x7#4 ++ 0#28
  | .frameProg => 0x8#4 ++ 0#28
  | .encode => 0x9#4 ++ 0#28

/-- The word a number numbers, bit 0 least significant; bits from `nbits` up are 0. A command has one 32-bit word
(rule R70), so no row has more bits. -/
def tableWord (nbits w : Nat) : Word := BitVec.ofNat 32 (w % 2 ^ nbits)

/-- The instruction the decoder reads from the table's word `w` of `nbits` bits; none where it refuses, or where the row
would be longer than the one command length (rule R78). -/
def decodeTableWord (nbits w : Nat) : Option Instr :=
  if nbits ≤ 32 then (decode (tableWord nbits w)).toOption else none

/-! ### Assembler lines and pseudo-instructions (rules R79, R80) -/

/-- The pseudo-instructions of rule R80. -/
inductive Pseudo where
  | leader
  | sync
  | footer
  | one
  | zero
  | pad
  deriving DecidableEq, Repr

/-- The expansion of a pseudo-instruction, commands issued one at a time (rule R80). -/
def Pseudo.expand : Pseudo → List Instr
  | .leader => [.tone .f770 44100]
  | .sync => [.half .f2500 .high, .half .f2000 .low]
  | .footer => [.bit true]
  | .one => [.bit true]
  | .zero => [.bit false]
  | .pad => [.silence 1102]

/-- The words of a line: `;` starts a comment and "Mnemonics are case-insensitive" (rule R79). DESIGN CHOICE (log 17): blanks
separate, a comma stands alone, and every letter of the line is taken in upper case, so that the operand words HIGH and LOW
and the 0x of a numeral are read in either case too, which rule R79 leaves open. `cur` is the word being read. -/
def asmTokens (cur : List Char) : List Char → List String
  | [] => if cur.isEmpty then [] else [String.ofList cur]
  | c :: cs =>
    let done : List String := if cur.isEmpty then [] else [String.ofList cur]
    if c = ';' then done
    else if c = ',' then done ++ "," :: asmTokens [] cs
    else if c = ' ' || c = '\t' then done ++ asmTokens [] cs
    else asmTokens (cur ++ [c.toUpper]) cs

/-- The value of one digit in base 10 or 16. -/
def asmDigit (base : Nat) (c : Char) : Option Nat :=
  let v := if '0' ≤ c ∧ c ≤ '9' then c.toNat - '0'.toNat else if 'A' ≤ c ∧ c ≤ 'F' then c.toNat - 'A'.toNat + 10 else base
  if v < base then some v else none

/-- The value of a digit string, most significant digit first. -/
def asmDigits (base acc : Nat) : List Char → Option Nat
  | [] => some acc
  | c :: cs =>
    match asmDigit base c with
    | some v => asmDigits base (acc * base + v) cs
    | none => none

/-- A numeral: decimal, or hexadecimal after 0x (rules R10, R79; log 17). -/
def asmNumber (t : String) : Option Nat :=
  match t.toList with
  | [] => none
  | '0' :: 'X' :: c :: cs => asmDigits 16 0 (c :: cs)
  | c :: cs => asmDigits 10 0 (c :: cs)

/-- A frequency of the set {770, 1000, 2000, 2500}; an assembler refuses any other (rule R79). -/
def asmFreq (t : String) : Option Freq :=
  match asmNumber t with
  | some 770 => some .f770
  | some 1000 => some .f1000
  | some 2000 => some .f2000
  | some 2500 => some .f2500
  | _ => none

/-- A numeral below a bound; an assembler refuses an out-of-range immediate (rule R79). -/
def asmBelow (bound : Nat) (t : String) : Option Nat :=
  match asmNumber t with
  | some n => if n < bound then some n else none
  | none => none

/-- The instructions of one assembler line (rules R79, R80): none where an assembler refuses it. -/
def asmInstrs (line : String) : Option (List Instr) :=
  match asmTokens [] line.toList with
  | [] => some []
  | [m] =>
    if m = "FRAME.META" then some [.frameMeta]
    else if m = "FRAME.PROG" then some [.frameProg]
    else if m = "ENCODE" then some [.encode]
    else if m = "LEADER" then some Pseudo.leader.expand
    else if m = "SYNC" then some Pseudo.sync.expand
    else if m = "FOOTER" then some Pseudo.footer.expand
    else if m = "ONE" then some Pseudo.one.expand
    else if m = "ZERO" then some Pseudo.zero.expand
    else if m = "PAD" then some Pseudo.pad.expand
    else none
  | [m, a] =>
    if m = "CYCLE" then (asmFreq a).map fun f => [.cycle f]
    else if m = "SILENCE" then (asmBelow (2 ^ 24) a).map fun n => [.silence n]
    else if m = "BIT" then (asmBelow 2 a).map fun v => [.bit (v == 1)]
    else if m = "BYTE" then (asmBelow 256 a).map fun d => [.byte (BitVec.ofNat 8 d)]
    else none
  | [m, a, c, b] =>
    if m = "TONE" ∧ c = "," then
      (asmFreq a).bind fun f => (asmBelow (2 ^ 24) b).map fun n => [.tone f n]
    else if m = "HALF" ∧ c = "," then
      (asmFreq a).bind fun f =>
        if b = "HIGH" then some [.half f .high] else if b = "LOW" then some [.half f .low] else none
    else none
  | _ => none

/-- The command words of one assembler line (rule R79): it "has no way to spell an illegal word". -/
def assemble (line : String) : Option (List Word) :=
  (asmInstrs line).map fun is => is.map encode

end Sys2Proof
end

