-- ==== Sys2Proof/Config.lean ====
section
/-! DEFINITION. What is fixed for the machine (00_scope.md rules R7 to R9) and the values the spec leaves free
(93_implementation_defined.md U1, U2). None of it is state (10_state.md rule R41). -/

namespace Sys2Proof

/-- The AMPLITUDE parameter (00_scope.md rule R8): 0.75 × 127 = 381/4, the spec's choice, or 0.75 × 128 = 96, the
alternative kept as a parameter (90_conflicts.md C1). -/
inductive Amplitude where
  | threeQuartersOf127
  | threeQuartersOf128
  deriving DecidableEq, Repr

/-- The exact value of the AMPLITUDE parameter (00_scope.md rule R8). -/
def Amplitude.value : Amplitude → ℚ
  | .threeQuartersOf127 => 381 / 4
  | .threeQuartersOf128 => 96

/-- The configuration of one CTE. "A model takes AMPLITUDE as a configuration field" (10_state.md rule R41). -/
structure Params where
  amplitude : Amplitude
  deriving DecidableEq, Repr

namespace Config

/-- The configuration this hardware takes: AMPLITUDE = 381/4 (00_scope.md rule R8, 92_eei_decisions.md D1). -/
def thisHardware : Params := ⟨.threeQuartersOf127⟩

/-- RATE, samples per second (00_scope.md rule R7). -/
def rate : Nat := 11025

/-- CHANNELS (00_scope.md rule R7). -/
def channels : Nat := 1

/-- SAMPLE_BITS (00_scope.md rule R7). -/
def sampleBits : Nat := 8

/-- LEADER_N = floor(4 × RATE) (00_scope.md rule R7, 40_synth.md rule R103). -/
def leaderN : Nat := 4 * rate

/-- TRAIL_N = floor(0.1 × RATE) (00_scope.md rule R7, 40_synth.md rule R103). -/
def trailN : Nat := rate / 10

/-- FLAG_LOAD, "load only" (00_scope.md rule R7). -/
def flagLoad : Byte := 0x55#8

/-- FLAG_RUN, "load-and-run" (00_scope.md rule R7). -/
def flagRun : Byte := 0xD5#8

/-- CHK_SEED (00_scope.md rule R7). -/
def chkSeed : Byte := 0xFF#8

/-- LEN_MIN (00_scope.md rule R7). -/
def lenMin : Nat := 1

/-- LEN_MAX (00_scope.md rule R7). -/
def lenMax : Nat := 65536

/-- BUF_BYTES (00_scope.md rule R7). -/
def bufBytes : Nat := 65536

/-- The first bus address of the program buffer (20_memory.md rule R51). -/
def bufBase : Nat := 0x10000

/-- The first bus address past the register window (20_memory.md rule R51). -/
def regWindowEnd : Nat := 0x20

/-- The free value of a buffer byte that the host has not written since the last reset (10_state.md rule R42,
70_reset_and_hazards.md rule R172, U1: "One draw per byte, fixed until the host writes it"): applied to the number of
resets and the byte's bus address. No body: nothing constrains it (log 3). -/
opaque bufferDraw : Nat → Nat → Byte

/-- The free value of s_data while s_valid = 0 (10_state.md rule R42, U2): applied to the number of steps taken.
No body: nothing constrains it (log 7). -/
opaque sDataDraw : Nat → Byte

end Config

end Sys2Proof
end

