-- ==== Sys2Proof/Machine/State.lean ====
section
/-! DEFINITION. The state of the CTE and of the agents around it (10_state.md), as plain data, and its value after reset. -/

namespace Sys2Proof.Machine

/-- The two kinds of segment (42_framer.md rule R130): segment A is the metadata segment, segment B the program segment. -/
inductive Seg where
  | metaSeg
  | progSeg
  deriving DecidableEq, Repr

/-- An element of a command's event list (10_state.md rule R24): a sample to hand over, or a checksum point. -/
inductive Event where
  | sample (v : Int)
  | setChk (which : Seg) (v : Byte)
  deriving DecidableEq, Repr

/-- The control state (10_state.md rule R37). -/
inductive Mode where
  | idle
  | busy
  deriving DecidableEq, Repr

/-- The stage of the hidden generator (10_state.md rule R38). `own` is the one call of a TONE, CYCLE, HALF or SILENCE and
the calls of a BIT or BYTE; `chkPoint` is the checksum point of rule R33; `finished` follows the last event. Segment A and
segment B are `Hidden.seg`. -/
inductive Stage where
  | own
  | leader
  | syncHigh
  | syncLow
  | payload
  | chkPoint
  | checksum
  | footer
  | trailing
  | finished
  deriving DecidableEq, Repr

/-- The hidden state of 10_state.md rule R38, and the command it belongs to (log 5). -/
structure Hidden where
  /-- The command the generator is producing: the model's own field (log 5). -/
  cmd : Instr
  /-- The stage. -/
  stage : Stage
  /-- Segment A or B. -/
  seg : Seg
  /-- The phase index n: the next sample's index within the current synthesis call. -/
  phase : Nat
  /-- The call counter: the samples left in the current call. -/
  left : Nat
  /-- The bit index, 7 down to 0 within a byte. -/
  bitIdx : Nat
  /-- The byte index within the segment's data. -/
  byteIdx : Nat
  /-- The checksum accumulator. -/
  acc : Byte
  deriving DecidableEq, Repr

/-- The answer of a bus transaction (10_state.md rule R21). -/
inductive Resp where
  | okay
  | error
  deriving DecidableEq, Repr

/-- The outputs of a bus transaction (10_state.md rule R22): resp, and for a read rdata. -/
structure BusOut where
  resp : Resp
  rdata : Option Word
  deriving DecidableEq, Repr

/-- The inputs of a bus transaction (10_state.md rule R22). A size that is neither 1 nor 4 can be asked for and answers
ERROR (20_memory.md rule R54). -/
structure BusTx where
  addr : BusAddr
  size : Nat
  write : Bool
  wdata : Word
  deriving DecidableEq, Repr

/-- What the agents around the CTE do in one step (10_state.md rules R20, R22, R23, R25, R27). -/
inductive EnvEvent where
  /-- The host performs a bus transaction. -/
  | bus (tx : BusTx)
  /-- The host asserts rst. -/
  | rst
  /-- The sink drives s_ready and sink_err to these levels, and the CTE takes a stream step. -/
  | stream (ready err : Bool)
  deriving DecidableEq, Repr

/-- The written bytes of the program buffer, keyed by bus address (20_memory.md rule R52): addresses strictly rising, one
entry for each byte the host has written since the last reset and none for any other (log 3). -/
abbrev Memory := List Host.Cell

/-- The whole state. -/
structure State where
  /-- The configuration, constant (10_state.md rule R41; log 6). -/
  cfg : Params
  /-- Idle or Busy (rule R37); STATUS.BUSY mirrors it (rule R30). -/
  mode : Mode
  /-- The events the current command has still to process (rule R37). -/
  pending : List Event
  /-- STATUS.DONE (rule R30). -/
  done : Bool
  /-- STATUS.ERR (rule R30). -/
  err : Bool
  /-- STATUS.WWB (rule R30). -/
  wwb : Bool
  /-- STATUS.ERRCODE (rule R30). -/
  errCode : BitVec 4
  /-- LENGTH.L (rule R31). -/
  length : BitVec 17
  /-- CONFIG.LOAD_RUN (rule R32). -/
  loadRun : Bool
  /-- CONFIG.IRQ_EN (rule R32). -/
  irqEn : Bool
  /-- CHECKSUM.META_CHK (rule R33). -/
  metaChk : Byte
  /-- CHECKSUM.PROG_CHK (rule R33). -/
  progChk : Byte
  /-- SAMPLE_COUNT (rule R34). -/
  sampleCount : BitVec 32
  /-- The program buffer (rule R40): its written bytes. -/
  buf : Memory
  /-- The hidden state (rule R38). -/
  hidden : Hidden
  /-- The level of the input s_ready (rule R21). -/
  sReady : Bool
  /-- The level of the input sink_err (rule R21). -/
  sinkErr : Bool
  /-- The bus outputs of the transaction the last step performed, none if it performed none (rule R22; log 9). -/
  busOut : Option BusOut
  /-- The sample patterns the sink has been handed, newest first: the sink agent's record (rule R23; log 8). -/
  sunk : List Byte
  /-- What the host and the sink do, one entry a step (rules R20, R59; log 1). -/
  env : List EnvEvent
  /-- How many resets there were: the counter of the buffer's free values (log 4). -/
  resets : Nat
  /-- How many steps were taken: the counter of the free s_data (log 4). -/
  draws : Nat
  deriving DecidableEq, Repr

/-- The reasons a step could stop with a fault: none. Every abnormal event of the CTE is a STATUS bit or the answer of a bus
transaction (60_exceptions.md rule R150: "None of them is a trap"), so no step raises a fault; a type with no constructor is
safe, for it lets no run end early (log 13). -/
inductive Fault where
  deriving DecidableEq, Repr

/-- The reasons a step could be refused. -/
inductive Refusal where
  /-- Raised only by an arm of `exec` that has no meaning yet; there is no such arm now. Safe: the run stops. -/
  | notModelled (mnemonic : String)
  deriving DecidableEq, Repr

/-- The hidden state right after power-on: unspecified and not observable (10_state.md rule R42); the values here are a
DESIGN CHOICE (log 5). -/
def Hidden.powerOn : Hidden :=
  { cmd := .frameMeta
    stage := .finished
    seg := .metaSeg
    phase := 0
    left := 0
    bitIdx := 0
    byteIdx := 0
    acc := 0x00#8 }

/-- The machine right after reset (10_state.md rule R42, 70_reset_and_hazards.md rule R171): every register 0, Idle, no event,
no buffer byte written; the sink connected and ready (DESIGN CHOICE, log 2), nothing scheduled (log 1). -/
def State.reset : State :=
  { cfg := Config.thisHardware
    mode := .idle
    pending := []
    done := false
    err := false
    wwb := false
    errCode := 0#4
    length := 0#17
    loadRun := false
    irqEn := false
    metaChk := 0x00#8
    progChk := 0x00#8
    sampleCount := 0#32
    buf := []
    hidden := Hidden.powerOn
    sReady := true
    sinkErr := false
    busOut := none
    sunk := []
    env := []
    resets := 0
    draws := 0 }

end Sys2Proof.Machine
end

