-- ==== Sys2Proof/Machine/Flags.lean ====
section
/-! DEFINITION. The STATUS register and what follows from it (10_state.md rules R26, R30; 60_exceptions.md rule R151). -/

namespace Sys2Proof.Machine

/-- The error causes of a command (60_exceptions.md rule R151). -/
inductive CmdError where
  | lenZero
  | lenRange
  | sink
  | illegalCmd
  deriving DecidableEq, Repr

/-- The code a cause has in STATUS.ERRCODE (60_exceptions.md rule R151). -/
def errorCode : CmdError → BitVec 4
  | .lenZero => 1#4
  | .lenRange => 2#4
  | .sink => 3#4
  | .illegalCmd => 4#4

/-- STATUS.BUSY, mirrored from the mode (10_state.md rule R37). -/
def State.busyBit (s : State) : Bool :=
  match s.mode with
  | .idle => false
  | .busy => true

/-- The STATUS word: BUSY in bit 0, DONE 1, ERR 2, WWB 3, ERRCODE 7:4, the rest 0 (10_state.md rule R30). -/
def State.statusWord (s : State) : Word :=
  0#24 ++ s.errCode ++ BitVec.ofBool s.wwb ++ BitVec.ofBool s.err ++ BitVec.ofBool s.done ++ BitVec.ofBool s.busyBit

/-- irq = CONFIG.IRQ_EN & (STATUS.DONE | STATUS.ERR) (10_state.md rule R26). -/
def State.irq (s : State) : Bool := s.irqEn && (s.done || s.err)

/-- A write-1-to-clear bit after a write: 1 clears it, 0 leaves it (10_state.md rule R30). -/
def clearedByOne (bit written : Bool) : Bool := bit && !written

/-- A write to STATUS: W1C on DONE, ERR and WWB, performed in either mode; BUSY and ERRCODE are read-only
(10_state.md rule R30). -/
def State.writeStatus (s : State) (v : Word) : State :=
  { s with
    done := clearedByOne s.done (v.getLsbD 1)
    err := clearedByOne s.err (v.getLsbD 2)
    wwb := clearedByOne s.wwb (v.getLsbD 3) }

/-- A write that arrives while Busy is dropped and sets WWB (70_reset_and_hazards.md rule R176). -/
def State.dropWrite (s : State) : State := { s with wwb := true }

/-- What every accept clears (10_state.md rule R37). -/
def State.clearForAccept (s : State) : State :=
  { s with
    done := false
    err := false
    errCode := 0#4
    sampleCount := 0#32 }

/-- Successful termination (60_exceptions.md rule R154). -/
def State.finish (s : State) : State :=
  { s with
    mode := .idle
    done := true }

/-- Error termination, the one operation every command error takes (60_exceptions.md rule R152): the analogue of trap entry.
Nothing else is saved, and there is no return from it (rule R159). -/
def State.raiseError (s : State) (e : CmdError) : State :=
  { s with
    pending := []
    mode := .idle
    err := true
    errCode := errorCode e }

end Sys2Proof.Machine
end

