-- ==== Sys2Proof/Machine/Memory.lean ====
section
/-! DEFINITION. The program buffer (10_state.md rule R40, 20_memory.md rules R52, R53): its canonical form, reads and writes. -/

namespace Sys2Proof.Machine

/-- The bus address of BUF[i] (20_memory.md rule R52). -/
def bufAddr (i : Nat) : Nat := Config.bufBase + i

/-- The address is one of the buffer's (20_memory.md rule R51). -/
def isBufAddr (a : Nat) : Bool := decide (Config.bufBase ≤ a ∧ a < Config.bufBase + Config.bufBytes)

/-- Every address of the memory lies above `lo`, and the addresses strictly rise and are the buffer's. -/
def Memory.wfAbove (lo : Nat) : Memory → Bool
  | [] => true
  | (a, _) :: m => decide (lo < a) && isBufAddr a && Memory.wfAbove a m

/-- The canonical form of the written bytes: buffer addresses only, strictly rising. An unlisted address is one the host has
not written since the last reset, so no entry can be equal to what it reads as (log 3). -/
def Memory.wf (m : Memory) : Bool := Memory.wfAbove 0 m

/-- The byte the host wrote at an address, none if it wrote none since the last reset. -/
def Memory.written : Memory → Nat → Option Byte
  | [], _ => none
  | (b, v) :: m, a => if a = b then some v else Memory.written m a

/-- Writing one byte changes only its own byte (20_memory.md rule R53). -/
def Memory.write : Memory → Nat → Byte → Memory
  | [], a, v => [(a, v)]
  | (b, u) :: m, a, v =>
    if a < b then (a, v) :: (b, u) :: m
    else if a = b then (a, v) :: m
    else (b, u) :: Memory.write m a v

/-- The byte at a bus address of the buffer: the one written, else the byte's draw, fixed until the next reset
(70_reset_and_hazards.md rule R172, U1). -/
def State.byteAt (s : State) (a : Nat) : Byte :=
  match s.buf.written a with
  | some v => v
  | none => Config.bufferDraw s.resets a

/-- BUF[i] (00_scope.md rule R11). -/
def State.bufByte (s : State) (i : Nat) : Byte := s.byteAt (bufAddr i)

/-- MemRead(addr, 4), little-endian (20_memory.md rule R53). -/
def State.wordAt (s : State) (a : Nat) : Word :=
  s.byteAt (a + 3) ++ s.byteAt (a + 2) ++ s.byteAt (a + 1) ++ s.byteAt a

/-- MemWrite(addr, 1, v) (20_memory.md rule R53). -/
def State.storeByte (s : State) (a : Nat) (v : Byte) : State := { s with buf := s.buf.write a v }

/-- MemWrite(addr, 4, v), little-endian: the byte at the lowest address is the least significant (20_memory.md rule R53). -/
def State.storeWord (s : State) (a : Nat) (v : Word) : State :=
  let m0 := s.buf.write a (v.extractLsb' 0 8)
  let m1 := m0.write (a + 1) (v.extractLsb' 8 8)
  let m2 := m1.write (a + 2) (v.extractLsb' 16 8)
  { s with buf := m2.write (a + 3) (v.extractLsb' 24 8) }

end Sys2Proof.Machine
end

