-- ==== Sys2Proof/Machine/Rom.lean ====
section
/-! DEFINITION. The sample ROM (10_state.md rule R39): the tables S_f[n] of 40_synth.md rules R106, R107 (AMPLITUDE = 381/4)
and R112 (AMPLITUDE = 96), written row by row as the spec prints them: 21 entries a row, row r, column c holding S_f[21 r + c].
The ROM is constant, not state (rules R39, R41). -/

namespace Sys2Proof.Machine

/-- 40_synth.md rule R106: S_770, AMPLITUDE = 381/4, 315 entries. -/
def rom770Amp381 : List (List Int) :=
  [[0, 40, 73, 92, 93, 77, 46, 6, -34, -68, -90, -94, -81, -52, -13, 28, 64, 87, 95, 84, 57],
   [19, -21, -59, -85, -95, -87, -62, -26, 15, 53, 82, 94, 89, 67, 32, -8, -48, -78, -93, -91, -72],
   [-38, 1, 42, 74, 92, 93, 76, 44, 4, -36, -70, -90, -94, -80, -50, -11, 29, 65, 88, 95, 83],
   [55, 17, -23, -60, -86, -95, -86, -61, -24, 17, 55, 82, 94, 89, 66, 30, -10, -49, -79, -94, -91],
   [-70, -36, 3, 43, 75, 93, 92, 75, 43, 2, -37, -71, -91, -94, -78, -48, -9, 31, 66, 89, 94],
   [82, 54, 16, -25, -61, -86, -95, -85, -59, -22, 18, 56, 83, 95, 88, 64, 28, -12, -51, -80, -94],
   [-90, -69, -35, 5, 45, 76, 93, 92, 73, 41, 0, -39, -72, -91, -93, -77, -47, -7, 33, 68, 89],
   [94, 81, 52, 14, -27, -63, -87, -95, -84, -58, -20, 20, 58, 84, 95, 87, 63, 27, -14, -52, -81],
   [-94, -89, -68, -33, 7, 47, 77, 93, 91, 72, 39, 0, -41, -73, -92, -93, -76, -45, -5, 35, 69],
   [90, 94, 80, 51, 12, -28, -64, -88, -95, -83, -56, -18, 22, 59, 85, 95, 86, 61, 25, -16, -54],
   [-82, -94, -89, -66, -31, 9, 48, 78, 94, 91, 71, 37, -2, -43, -75, -92, -93, -75, -43, -3, 36],
   [70, 91, 94, 79, 49, 10, -30, -66, -89, -94, -82, -55, -17, 24, 61, 86, 95, 86, 60, 23, -17],
   [-55, -83, -95, -88, -65, -29, 11, 50, 80, 94, 90, 70, 36, -4, -44, -76, -93, -92, -74, -42, -1],
   [38, 72, 91, 93, 78, 48, 8, -32, -67, -89, -94, -82, -53, -15, 26, 62, 87, 95, 85, 59, 21],
   [-19, -57, -84, -95, -87, -64, -28, 13, 52, 81, 94, 90, 68, 34, -6, -46, -77, -93, -92, -73, -40]]

/-- 40_synth.md rule R107: S_1000, AMPLITUDE = 381/4, 441 entries. -/
def rom1000Amp381 : List (List Int) :=
  [[0, 51, 86, 94, 72, 27, -26, -71, -94, -87, -52, -1, 50, 85, 94, 73, 28, -24, -70, -93, -87],
   [-53, -2, 49, 85, 94, 74, 30, -23, -69, -93, -88, -54, -4, 47, 84, 94, 74, 31, -22, -68, -93],
   [-88, -55, -5, 46, 84, 94, 75, 32, -20, -67, -93, -89, -56, -6, 45, 83, 95, 76, 33, -19, -66],
   [-92, -89, -58, -8, 44, 82, 95, 77, 35, -18, -65, -92, -90, -59, -9, 43, 82, 95, 78, 36, -16],
   [-64, -92, -90, -60, -10, 41, 81, 95, 78, 37, -15, -63, -91, -90, -61, -12, 40, 80, 95, 79, 38],
   [-14, -62, -91, -91, -62, -13, 39, 80, 95, 80, 40, -12, -61, -91, -91, -63, -14, 38, 79, 95, 81],
   [41, -11, -60, -90, -92, -64, -16, 36, 78, 95, 81, 42, -10, -59, -90, -92, -65, -17, 35, 77, 95],
   [82, 43, -8, -58, -89, -92, -66, -18, 34, 76, 95, 83, 44, -7, -57, -89, -93, -67, -20, 33, 76],
   [94, 83, 46, -6, -56, -88, -93, -68, -21, 31, 75, 94, 84, 47, -4, -55, -88, -93, -69, -22, 30],
   [74, 94, 85, 48, -3, -54, -87, -93, -70, -24, 29, 73, 94, 85, 49, -2, -53, -87, -94, -70, -25],
   [28, 72, 94, 86, 50, 0, -51, -86, -94, -71, -26, 26, 71, 94, 86, 51, 0, -50, -86, -94, -72],
   [-28, 25, 70, 94, 87, 53, 2, -49, -85, -94, -73, -29, 24, 70, 93, 87, 54, 3, -48, -85, -94],
   [-74, -30, 22, 69, 93, 88, 55, 4, -47, -84, -94, -75, -31, 21, 68, 93, 88, 56, 6, -46, -83],
   [-94, -76, -33, 20, 67, 93, 89, 57, 7, -44, -83, -95, -76, -34, 18, 66, 92, 89, 58, 8, -43],
   [-82, -95, -77, -35, 17, 65, 92, 90, 59, 10, -42, -81, -95, -78, -36, 16, 64, 92, 90, 60, 11],
   [-41, -81, -95, -79, -38, 14, 63, 91, 91, 61, 12, -40, -80, -95, -80, -39, 13, 62, 91, 91, 62],
   [14, -38, -79, -95, -80, -40, 12, 61, 90, 91, 63, 15, -37, -78, -95, -81, -41, 10, 60, 90, 92],
   [64, 16, -36, -78, -95, -82, -43, 9, 59, 90, 92, 65, 18, -35, -77, -95, -82, -44, 8, 58, 89],
   [92, 66, 19, -33, -76, -95, -83, -45, 6, 56, 89, 93, 67, 20, -32, -75, -94, -84, -46, 5, 55],
   [88, 93, 68, 22, -31, -74, -94, -84, -47, 4, 54, 88, 93, 69, 23, -30, -74, -94, -85, -49, 2],
   [53, 87, 93, 70, 24, -28, -73, -94, -85, -50, 1, 52, 87, 94, 71, 26, -27, -72, -94, -86, -51]]

/-- 40_synth.md rule R107: S_2000, AMPLITUDE = 381/4, 441 entries. -/
def rom2000Amp381 : List (List Int) :=
  [[0, 86, 72, -26, -94, -52, 50, 94, 28, -70, -87, -2, 85, 74, -23, -93, -54, 47, 94, 31, -68],
   [-88, -5, 84, 75, -20, -93, -56, 45, 95, 33, -66, -89, -8, 82, 77, -18, -92, -59, 43, 95, 36],
   [-64, -90, -10, 81, 78, -15, -91, -61, 40, 95, 38, -62, -91, -13, 80, 80, -12, -91, -63, 38, 95],
   [41, -60, -92, -16, 78, 81, -10, -90, -65, 35, 95, 43, -58, -92, -18, 76, 83, -7, -89, -67, 33],
   [94, 46, -56, -93, -21, 75, 84, -4, -88, -69, 30, 94, 48, -54, -93, -24, 73, 85, -2, -87, -70],
   [28, 94, 50, -51, -94, -26, 71, 86, 0, -86, -72, 25, 94, 53, -49, -94, -29, 70, 87, 3, -85],
   [-74, 22, 93, 55, -47, -94, -31, 68, 88, 6, -83, -76, 20, 93, 57, -44, -95, -34, 66, 89, 8],
   [-82, -77, 17, 92, 59, -42, -95, -36, 64, 90, 11, -81, -79, 14, 91, 61, -40, -95, -39, 62, 91],
   [14, -79, -80, 12, 90, 63, -37, -95, -41, 60, 92, 16, -78, -82, 9, 90, 65, -35, -95, -44, 58],
   [92, 19, -76, -83, 6, 89, 67, -32, -94, -46, 55, 93, 22, -74, -84, 4, 88, 69, -30, -94, -49],
   [53, 93, 24, -73, -85, 1, 87, 71, -27, -94, -51, 51, 94, 27, -71, -87, -1, 85, 73, -24, -93],
   [-53, 49, 94, 30, -69, -88, -4, 84, 74, -22, -93, -55, 46, 94, 32, -67, -89, -6, 83, 76, -19],
   [-92, -58, 44, 95, 35, -65, -90, -9, 82, 78, -16, -92, -60, 41, 95, 37, -63, -90, -12, 80, 79],
   [-14, -91, -62, 39, 95, 40, -61, -91, -14, 79, 81, -11, -90, -64, 36, 95, 42, -59, -92, -17, 77],
   [82, -8, -89, -66, 34, 95, 44, -57, -93, -20, 76, 83, -6, -88, -68, 31, 94, 47, -55, -93, -22],
   [74, 85, -3, -87, -70, 29, 94, 49, -53, -94, -25, 72, 86, 0, -86, -71, 26, 94, 51, -50, -94],
   [-28, 70, 87, 2, -85, -73, 24, 93, 54, -48, -94, -30, 69, 88, 4, -84, -75, 21, 93, 56, -46],
   [-94, -33, 67, 89, 7, -83, -76, 18, 92, 58, -43, -95, -35, 65, 90, 10, -81, -78, 16, 92, 60],
   [-41, -95, -38, 63, 91, 12, -80, -80, 13, 91, 62, -38, -95, -40, 61, 91, 15, -78, -81, 10, 90],
   [64, -36, -95, -43, 59, 92, 18, -77, -82, 8, 89, 66, -33, -95, -45, 56, 93, 20, -75, -84, 5],
   [88, 68, -31, -94, -47, 54, 93, 23, -74, -85, 2, 87, 70, -28, -94, -50, 52, 94, 26, -72, -86]]

/-- 40_synth.md rule R107: S_2500, AMPLITUDE = 381/4, 441 entries. -/
def rom2500Amp381 : List (List Int) :=
  [[0, 94, 27, -86, -52, 70, 73, -49, -87, 24, 94, 3, -93, -30, 84, 55, -68, -75, 46, 88, -20],
   [-94, -6, 93, 33, -83, -58, 66, 77, -43, -90, 17, 95, 10, -92, -36, 81, 60, -63, -79, 40, 91],
   [-14, -95, -13, 91, 40, -79, -63, 61, 81, -37, -92, 10, 95, 16, -90, -43, 77, 65, -58, -82, 34],
   [92, -7, -95, -20, 89, 46, -75, -68, 55, 84, -31, -93, 4, 94, 23, -87, -49, 73, 70, -53, -85],
   [28, 94, 0, -94, -26, 86, 51, -71, -72, 50, 87, -24, -94, -2, 93, 30, -85, -54, 69, 74, -47],
   [-88, 21, 94, 6, -93, -33, 83, 57, -66, -76, 44, 89, -18, -95, -9, 92, 36, -81, -60, 64, 78],
   [-41, -90, 14, 95, 12, -91, -39, 80, 62, -61, -80, 38, 91, -11, -95, -16, 90, 42, -78, -65, 59],
   [82, -35, -92, 8, 95, 19, -89, -45, 76, 67, -56, -84, 31, 93, -4, -94, -22, 88, 48, -74, -70],
   [53, 85, -28, -94, 1, 94, 26, -86, -51, 71, 72, -50, -87, 25, 94, 2, -93, -29, 85, 54, -69],
   [-74, 47, 88, -22, -94, -5, 93, 32, -83, -56, 67, 76, -44, -89, 18, 95, 8, -92, -35, 82, 59],
   [-64, -78, 41, 90, -15, -95, -12, 91, 38, -80, -62, 62, 80, -38, -91, 12, 95, 15, -90, -41, 78],
   [64, -59, -82, 35, 92, -8, -95, -18, 89, 44, -76, -67, 56, 83, -32, -93, 5, 94, 22, -88, -47],
   [74, 69, -54, -85, 29, 93, -2, -94, -25, 87, 50, -72, -71, 51, 86, -26, -94, -1, 94, 28, -85],
   [-53, 70, 74, -48, -88, 22, 94, 4, -93, -31, 84, 56, -67, -76, 45, 89, -19, -95, -8, 92, 35],
   [-82, -59, 65, 78, -42, -90, 16, 95, 11, -91, -38, 80, 61, -62, -80, 39, 91, -12, -95, -14, 90],
   [41, -78, -64, 60, 81, -36, -92, 9, 95, 18, -89, -44, 76, 66, -57, -83, 33, 93, -6, -94, -21],
   [88, 47, -74, -69, 54, 85, -30, -93, 2, 94, 24, -87, -50, 72, 71, -51, -86, 26, 94, 0, -94],
   [-28, 85, 53, -70, -73, 49, 87, -23, -94, -4, 93, 31, -84, -55, 68, 75, -46, -89, 20, 95, 7],
   [-92, -34, 82, 58, -65, -77, 43, 90, -16, -95, -10, 92, 37, -81, -61, 63, 79, -40, -91, 13, 95],
   [14, -91, -40, 79, 63, -60, -81, 36, 92, -10, -95, -17, 90, 43, -77, -66, 58, 83, -33, -93, 6],
   [94, 20, -88, -46, 75, 68, -55, -84, 30, 93, -3, -94, -24, 87, 49, -73, -70, 52, 86, -27, -94]]

/-- 40_synth.md rule R112: S_770, AMPLITUDE = 96, 315 entries. -/
def rom770Amp96 : List (List Int) :=
  [[0, 40, 73, 92, 94, 77, 46, 6, -34, -69, -91, -95, -81, -52, -13, 28, 64, 88, 95, 84, 57],
   [19, -21, -59, -85, -95, -87, -63, -26, 15, 54, 82, 95, 90, 68, 32, -8, -48, -79, -94, -92, -72],
   [-39, 1, 42, 75, 93, 94, 76, 45, 4, -36, -70, -91, -95, -80, -50, -11, 30, 65, 89, 95, 84],
   [56, 18, -23, -60, -86, -95, -87, -61, -24, 17, 55, 83, 95, 89, 66, 31, -10, -50, -80, -94, -91],
   [-71, -37, 3, 44, 76, 93, 93, 75, 43, 2, -38, -71, -92, -94, -79, -49, -9, 31, 67, 90, 95],
   [83, 54, 16, -25, -62, -87, -95, -86, -60, -22, 19, 57, 84, 95, 89, 65, 29, -12, -51, -81, -95],
   [-91, -70, -35, 5, 45, 77, 94, 93, 74, 41, 0, -39, -73, -92, -94, -78, -47, -7, 33, 68, 90],
   [95, 82, 53, 14, -27, -63, -88, -95, -85, -58, -20, 20, 58, 85, 95, 88, 63, 27, -14, -53, -82],
   [-95, -90, -68, -33, 7, 47, 78, 94, 92, 73, 39, 0, -41, -74, -93, -94, -77, -45, -5, 35, 70],
   [91, 95, 81, 51, 12, -29, -65, -89, -95, -84, -57, -19, 22, 60, 86, 95, 87, 62, 25, -16, -54],
   [-83, -95, -90, -67, -31, 9, 49, 79, 94, 92, 71, 38, -2, -43, -75, -93, -93, -76, -44, -3, 37],
   [71, 91, 94, 80, 50, 10, -31, -66, -89, -95, -83, -55, -17, 24, 61, 87, 95, 86, 60, 23, -18],
   [-56, -84, -95, -89, -65, -30, 11, 50, 80, 95, 91, 70, 36, -4, -45, -76, -94, -93, -75, -42, -1],
   [39, 72, 92, 94, 79, 48, 8, -32, -68, -90, -95, -82, -54, -15, 26, 63, 87, 95, 85, 59, 21],
   [-19, -57, -84, -95, -88, -64, -28, 13, 52, 81, 95, 91, 69, 34, -6, -46, -77, -94, -92, -73, -40]]

/-- 40_synth.md rule R112: S_1000, AMPLITUDE = 96, 441 entries. -/
def rom1000Amp96 : List (List Int) :=
  [[0, 51, 87, 95, 72, 27, -26, -71, -94, -87, -52, -1, 50, 86, 95, 73, 28, -25, -71, -94, -88],
   [-54, -2, 49, 86, 95, 74, 30, -23, -70, -94, -88, -55, -4, 48, 85, 95, 75, 31, -22, -69, -94],
   [-89, -56, -5, 47, 84, 95, 76, 32, -21, -68, -93, -89, -57, -6, 45, 84, 95, 77, 34, -19, -67],
   [-93, -90, -58, -8, 44, 83, 95, 77, 35, -18, -66, -93, -90, -59, -9, 43, 82, 95, 78, 36, -17],
   [-65, -92, -91, -60, -10, 42, 82, 95, 79, 37, -15, -64, -92, -91, -61, -12, 41, 81, 95, 80, 39],
   [-14, -63, -92, -92, -62, -13, 39, 80, 95, 81, 40, -12, -62, -91, -92, -63, -14, 38, 79, 95, 81],
   [41, -11, -61, -91, -92, -64, -16, 37, 79, 95, 82, 42, -10, -60, -91, -93, -65, -17, 36, 78, 95],
   [83, 44, -8, -59, -90, -93, -66, -19, 34, 77, 95, 83, 45, -7, -57, -90, -93, -67, -20, 33, 76],
   [95, 84, 46, -6, -56, -89, -94, -68, -21, 32, 75, 95, 85, 47, -4, -55, -89, -94, -69, -23, 30],
   [75, 95, 85, 48, -3, -54, -88, -94, -70, -24, 29, 74, 95, 86, 50, -2, -53, -88, -94, -71, -25],
   [28, 73, 95, 86, 51, 0, -52, -87, -94, -72, -26, 26, 72, 94, 87, 52, 0, -51, -86, -95, -73],
   [-28, 25, 71, 94, 88, 53, 2, -50, -86, -95, -74, -29, 24, 70, 94, 88, 54, 3, -48, -85, -95],
   [-75, -30, 23, 69, 94, 89, 55, 4, -47, -85, -95, -75, -32, 21, 68, 94, 89, 56, 6, -46, -84],
   [-95, -76, -33, 20, 67, 93, 90, 57, 7, -45, -83, -95, -77, -34, 19, 66, 93, 90, 59, 8, -44],
   [-83, -95, -78, -36, 17, 65, 93, 91, 60, 10, -42, -82, -95, -79, -37, 16, 64, 92, 91, 61, 11],
   [-41, -81, -95, -79, -38, 14, 63, 92, 91, 62, 12, -40, -81, -95, -80, -39, 13, 62, 92, 92, 63],
   [14, -39, -80, -95, -81, -41, 12, 61, 91, 92, 64, 15, -37, -79, -95, -82, -42, 10, 60, 91, 92],
   [65, 17, -36, -78, -95, -82, -43, 9, 59, 90, 93, 66, 18, -35, -77, -95, -83, -44, 8, 58, 90],
   [93, 67, 19, -34, -77, -95, -84, -45, 6, 57, 89, 93, 68, 21, -32, -76, -95, -84, -47, 5, 56],
   [89, 94, 69, 22, -31, -75, -95, -85, -48, 4, 55, 88, 94, 70, 23, -30, -74, -95, -86, -49, 2],
   [54, 88, 94, 71, 25, -28, -73, -95, -86, -50, 1, 52, 87, 94, 71, 26, -27, -72, -95, -87, -51]]

/-- 40_synth.md rule R112: S_2000, AMPLITUDE = 96, 441 entries. -/
def rom2000Amp96 : List (List Int) :=
  [[0, 87, 72, -26, -94, -52, 50, 95, 28, -71, -88, -2, 86, 74, -23, -94, -55, 48, 95, 31, -69],
   [-89, -5, 84, 76, -21, -93, -57, 45, 95, 34, -67, -90, -8, 83, 77, -18, -93, -59, 43, 95, 36],
   [-65, -91, -10, 82, 79, -15, -92, -61, 41, 95, 39, -63, -92, -13, 80, 81, -12, -91, -63, 38, 95],
   [41, -61, -92, -16, 79, 82, -10, -91, -65, 36, 95, 44, -59, -93, -19, 77, 83, -7, -90, -67, 33],
   [95, 46, -56, -94, -21, 75, 85, -4, -89, -69, 30, 95, 48, -54, -94, -24, 74, 86, -2, -88, -71],
   [28, 95, 51, -52, -94, -26, 72, 87, 0, -86, -73, 25, 94, 53, -50, -95, -29, 70, 88, 3, -85],
   [-75, 23, 94, 55, -47, -95, -32, 68, 89, 6, -84, -76, 20, 93, 57, -45, -95, -34, 66, 90, 8],
   [-83, -78, 17, 93, 60, -42, -95, -37, 64, 91, 11, -81, -79, 14, 92, 62, -40, -95, -39, 62, 92],
   [14, -80, -81, 12, 91, 64, -37, -95, -42, 60, 92, 17, -78, -82, 9, 90, 66, -35, -95, -44, 58],
   [93, 19, -77, -84, 6, 89, 68, -32, -95, -47, 56, 94, 22, -75, -85, 4, 88, 70, -30, -95, -49],
   [54, 94, 25, -73, -86, 1, 87, 71, -27, -95, -51, 51, 95, 27, -71, -87, -1, 86, 73, -25, -94],
   [-54, 49, 95, 30, -70, -88, -4, 85, 75, -22, -94, -56, 47, 95, 32, -68, -89, -6, 84, 77, -19],
   [-93, -58, 44, 95, 35, -66, -90, -9, 82, 78, -17, -92, -60, 42, 95, 37, -64, -91, -12, 81, 80],
   [-14, -92, -62, 39, 95, 40, -62, -92, -14, 79, 81, -11, -91, -64, 37, 95, 42, -60, -93, -17, 78],
   [83, -8, -90, -66, 34, 95, 45, -57, -93, -20, 76, 84, -6, -89, -68, 32, 95, 47, -55, -94, -23],
   [75, 85, -3, -88, -70, 29, 95, 50, -53, -94, -25, 73, 86, 0, -87, -72, 26, 94, 52, -51, -95],
   [-28, 71, 88, 2, -86, -74, 24, 94, 54, -48, -95, -30, 69, 89, 4, -85, -75, 21, 94, 56, -46],
   [-95, -33, 67, 90, 7, -83, -77, 19, 93, 59, -44, -95, -36, 65, 91, 10, -82, -79, 16, 92, 61],
   [-41, -95, -38, 63, 91, 12, -81, -80, 13, 92, 63, -39, -95, -41, 61, 92, 15, -79, -82, 10, 91],
   [65, -36, -95, -43, 59, 93, 18, -77, -83, 8, 90, 67, -34, -95, -45, 57, 93, 21, -76, -84, 5],
   [89, 69, -31, -95, -48, 55, 94, 23, -74, -86, 2, 88, 71, -28, -95, -50, 52, 94, 26, -72, -87]]

/-- 40_synth.md rule R112: S_2500, AMPLITUDE = 96, 441 entries. -/
def rom2500Amp96 : List (List Int) :=
  [[0, 94, 27, -86, -52, 71, 73, -50, -88, 24, 95, 3, -94, -30, 85, 55, -69, -75, 47, 89, -21],
   [-95, -6, 93, 34, -83, -58, 66, 77, -44, -90, 17, 95, 10, -92, -37, 82, 61, -64, -79, 41, 91],
   [-14, -95, -13, 92, 40, -80, -63, 61, 81, -37, -92, 10, 95, 17, -91, -43, 78, 66, -59, -83, 34],
   [93, -7, -95, -20, 89, 46, -76, -68, 56, 85, -31, -94, 4, 95, 23, -88, -49, 74, 71, -53, -86],
   [28, 94, 0, -95, -26, 87, 52, -71, -73, 50, 88, -25, -95, -2, 94, 30, -85, -55, 69, 75, -47],
   [-89, 21, 95, 6, -93, -33, 84, 57, -67, -77, 44, 90, -18, -95, -9, 93, 36, -82, -60, 64, 79],
   [-41, -91, 14, 95, 12, -92, -39, 80, 63, -62, -81, 38, 92, -11, -95, -16, 91, 42, -78, -65, 59],
   [83, -35, -93, 8, 95, 19, -90, -45, 76, 68, -56, -84, 32, 94, -4, -95, -23, 88, 48, -74, -70],
   [54, 86, -28, -94, 1, 95, 26, -87, -51, 72, 72, -51, -87, 25, 95, 2, -94, -29, 86, 54, -70],
   [-75, 48, 89, -22, -95, -5, 94, 32, -84, -57, 67, 77, -45, -90, 19, 95, 8, -93, -36, 82, 60],
   [-65, -79, 42, 91, -15, -95, -12, 92, 39, -81, -62, 62, 81, -39, -92, 12, 95, 15, -91, -42, 79],
   [65, -60, -82, 36, 93, -8, -95, -19, 90, 45, -77, -67, 57, 84, -32, -94, 5, 95, 22, -89, -48],
   [75, 70, -54, -86, 29, 94, -2, -95, -25, 87, 51, -72, -72, 51, 87, -26, -95, -1, 94, 28, -86],
   [-54, 70, 74, -48, -88, 23, 95, 4, -94, -32, 84, 56, -68, -76, 45, 90, -19, -95, -8, 93, 35],
   [-83, -59, 65, 78, -42, -91, 16, 95, 11, -92, -38, 81, 62, -63, -80, 39, 92, -12, -95, -14, 91],
   [41, -79, -64, 60, 82, -36, -93, 9, 95, 18, -90, -44, 77, 67, -57, -84, 33, 93, -6, -95, -21],
   [89, 47, -75, -69, 55, 85, -30, -94, 2, 95, 25, -88, -50, 73, 71, -52, -87, 26, 95, 0, -94],
   [-28, 86, 53, -71, -74, 49, 88, -23, -95, -4, 94, 31, -85, -56, 68, 76, -46, -89, 20, 95, 7],
   [-93, -34, 83, 59, -66, -78, 43, 91, -17, -95, -10, 92, 37, -81, -61, 63, 80, -40, -92, 13, 95],
   [14, -91, -41, 79, 64, -61, -82, 37, 92, -10, -95, -17, 90, 44, -77, -66, 58, 83, -34, -93, 6],
   [95, 21, -89, -47, 75, 69, -55, -85, 30, 94, -3, -95, -24, 88, 50, -73, -71, 52, 86, -27, -94]]

/-- The table the ROM holds for a frequency under the chosen amplitude (rules R39, R105). -/
def romRows : Amplitude → Freq → List (List Int)
  | .threeQuartersOf127, .f770 => rom770Amp381
  | .threeQuartersOf127, .f1000 => rom1000Amp381
  | .threeQuartersOf127, .f2000 => rom2000Amp381
  | .threeQuartersOf127, .f2500 => rom2500Amp381
  | .threeQuartersOf128, .f770 => rom770Amp96
  | .threeQuartersOf128, .f1000 => rom1000Amp96
  | .threeQuartersOf128, .f2000 => rom2000Amp96
  | .threeQuartersOf128, .f2500 => rom2500Amp96

/-- `S_f[n]` of 40_synth.md rule R105, for `n` below the table's period. -/
def romEntry (amp : Amplitude) (f : Freq) (n : Nat) : Int :=
  ((romRows amp f).getD (n / 21) []).getD (n % 21) 0

end Sys2Proof.Machine
end

