-- ==== Sys2Proof/Machine/Operands.lean ====
section
/-! DEFINITION. Operands: what FSEL and POL select (30_encoding.md rules R72, R73), the sample counts of a period and of half
a period (40_synth.md rules R103, R104), the value of one sample (rules R101, R105) and the synthesis call (rule R100). -/

namespace Sys2Proof.Machine

/-- The frequency in Hz (30_encoding.md rule R72). -/
def freqHz : Freq → Nat
  | .f770 => 770
  | .f1000 => 1000
  | .f2000 => 2000
  | .f2500 => 2500

/-- P_f, the number of entries of the frequency's table (40_synth.md rule R105). -/
def romPeriod : Freq → Nat
  | .f770 => 315
  | .f1000 => 441
  | .f2000 => 441
  | .f2500 => 441

/-- p_f: f / RATE in lowest terms is p_f / P_f (40_synth.md rule R105). -/
def romStride : Freq → Nat
  | .f770 => 22
  | .f1000 => 40
  | .f2000 => 80
  | .f2500 => 100

/-- σ = +1 for high, −1 for low (30_encoding.md rule R73). -/
def polaritySign : Polarity → Int
  | .high => 1
  | .low => -1

/-- Ncyc(f) = floor(RATE / f) (40_synth.md rule R103). -/
def cycleCount (f : Freq) : Nat := Config.rate / freqHz f

/-- Nhalf(f) = floor(RATE / (2 f)) (40_synth.md rule R103). -/
def halfCount (f : Freq) : Nat := Config.rate / (2 * freqHz f)

/-- Val(f, k, σ) = σ × S_f[k mod P_f] (40_synth.md rule R105). -/
def sampleValue (amp : Amplitude) (f : Freq) (p : Polarity) (k : Nat) : Int :=
  polaritySign p * romEntry amp f (k % romPeriod f)

/-- The two's-complement pattern of a sample, as s_data carries it (00_scope.md rule R10, 10_state.md rule R21). -/
def samplePattern (v : Int) : Byte := BitVec.ofInt 8 v

/-- What a synthesis call plays: a sine of one frequency and polarity, or silence. -/
inductive Wave where
  | sine (f : Freq) (p : Polarity)
  | flat
  deriving DecidableEq, Repr

/-- A synthesis call (40_synth.md rule R100): its wave and its number of samples. -/
structure Call where
  wave : Wave
  count : Nat
  deriving DecidableEq, Repr

/-- Sample k of a call that plays the wave. -/
def waveValue (amp : Amplitude) : Wave → Nat → Int
  | .sine f p, k => sampleValue amp f p k
  | .flat, _ => 0

/-- Samples k, k + 1, ..., k + n − 1 of a call, as events. -/
def waveEvents (amp : Amplitude) (w : Wave) (k n : Nat) : List Event :=
  (List.range' k n).map fun j => Event.sample (waveValue amp w j)

/-- The event list of a whole call: the phase starts at zero (40_synth.md rule R100). -/
def callEvents (amp : Amplitude) (c : Call) : List Event := waveEvents amp c.wave 0 c.count

/-- Tone(FSEL, N): one call, σ = +1 (40_synth.md rule R108). -/
def toneCall (f : Freq) (n : Nat) : Call := ⟨.sine f .high, n⟩

/-- Cycle(FSEL) = Tone(FSEL, Ncyc(f)) (40_synth.md rule R109). -/
def cycleCall (f : Freq) : Call := toneCall f (cycleCount f)

/-- Half(FSEL, POL): Nhalf(f) samples, negated when low (40_synth.md rule R110). -/
def halfCall (f : Freq) (p : Polarity) : Call := ⟨.sine f p, halfCount f⟩

/-- Silence(N): N zero samples (40_synth.md rule R111). -/
def silenceCall (n : Nat) : Call := ⟨.flat, n⟩

/-- Bit(v): one cycle at F_ONE = 1000 Hz for 1, at F_ZERO = 2000 Hz for 0 (41_fsk.md rule R120). -/
def bitCall (v : Bool) : Call := cycleCall (if v then .f1000 else .f2000)

end Sys2Proof.Machine
end

