-- ==== Sys2Proof/Machine/Ops.lean ====
section
/-! DEFINITION. The shared operations: the event lists the commands are built from (41_fsk.md, 42_framer.md), the hidden
generator (10_state.md rule R38), the accept of a command, its error termination and its stream steps (rules R23 to R25,
R37), and reset (70_reset_and_hazards.md rule R170). -/

namespace Sys2Proof.Machine

/-! ### Event lists -/

/-- Bit(v) (41_fsk.md rule R120). -/
def bitEvents (amp : Amplitude) (v : Bool) : List Event := callEvents amp (bitCall v)

/-- The bits of d below position i, from i − 1 down to 0. -/
def bitsBelow (amp : Amplitude) (d : Byte) : Nat → List Event
  | 0 => []
  | i + 1 => bitEvents amp (d.getLsbD i) ++ bitsBelow amp d i

/-- ByteSamples(d): "for bit position 7 down to 0" (41_fsk.md rule R123). -/
def byteEvents (amp : Amplitude) (d : Byte) : List Event := bitsBelow amp d 8

/-- Chk: 8-bit XOR seeded 0xFF, in emission order (42_framer.md rule R133). -/
def checksum (data : List Byte) : Byte := data.foldl (fun acc d => acc ^^^ d) Config.chkSeed

/-- LEADER = Tone(0b00, 44100) (42_framer.md rule R132). -/
def leaderCall : Call := toneCall .f770 Config.leaderN

/-- The first half of SYNC, Half(0b11, 0) (42_framer.md rule R132). -/
def syncHighCall : Call := halfCall .f2500 .high

/-- The second half of SYNC, Half(0b10, 1) (42_framer.md rule R132). -/
def syncLowCall : Call := halfCall .f2000 .low

/-- FOOTER = Bit(1) (42_framer.md rule R140). -/
def footerCall : Call := bitCall true

/-- The trailing silence, Silence(1102) (42_framer.md rule R139). -/
def trailCall : Call := silenceCall Config.trailN

/-- A segment from its checksum point on, the checksum being c: SetChk, the checksum byte, the footer (rule R130). -/
def segmentEnd (amp : Amplitude) (k : Seg) (c : Byte) : List Event :=
  Event.setChk k c :: (byteEvents amp c ++ callEvents amp footerCall)

/-- A segment after its SYNC: data bytes, checksum point, checksum byte, footer (rule R130). -/
def segmentBody (amp : Amplitude) (k : Seg) (data : List Byte) : List Event :=
  data.flatMap (byteEvents amp) ++ segmentEnd amp k (checksum data)

/-- Segment(K, data) (42_framer.md rule R130). -/
def segmentEvents (amp : Amplitude) (k : Seg) (data : List Byte) : List Event :=
  callEvents amp leaderCall ++ callEvents amp syncHighCall ++ callEvents amp syncLowCall ++ segmentBody amp k data

/-- ValidateLen(L) (42_framer.md rule R131); L = 0 is looked at first (60_exceptions.md rule R157 a). -/
def validateLen (l : Nat) : Option CmdError :=
  if l < Config.lenMin then some .lenZero else if Config.lenMax < l then some .lenRange else none

/-- The load-mode flag byte (42_framer.md rule R135). -/
def loadFlag (run : Bool) : Byte := if run then Config.flagRun else Config.flagLoad

/-- MetaData(L, r): (L − 1)[15:0] little-endian, then the flag (42_framer.md rule R135). -/
def metaData (l : Nat) (run : Bool) : List Byte :=
  let mm : BitVec 16 := BitVec.ofNat 16 (l - 1)
  [mm.extractLsb' 0 8, mm.extractLsb' 8 8, loadFlag run]

/-- ProgData(L) = [BUF[0], ..., BUF[L−1]] (42_framer.md rule R137). -/
def progData (s : State) (l : Nat) : List Byte := (List.range' 0 l).map s.bufByte

/-- LENGTH.L as a number (10_state.md rule R31). -/
def State.len (s : State) : Nat := s.length.toNat

/-- The data bytes of a segment of the current command. -/
def segData (s : State) : Seg → List Byte
  | .metaSeg => metaData s.len s.loadRun
  | .progSeg => progData s s.len

/-- The segment of kind K that the machine's LENGTH, CONFIG and buffer give. -/
def State.segment (s : State) (k : Seg) : List Event := segmentEvents s.cfg.amplitude k (segData s k)

/-! ### The hidden generator (rule R38) -/

/-- Data byte k of a segment, read as the hardware reads it: one byte. -/
def segByte (s : State) : Seg → Nat → Byte
  | .metaSeg, k => (metaData s.len s.loadRun).getD k 0#8
  | .progSeg, k => s.bufByte k

/-- The number of data bytes of a segment. -/
def segCount (s : State) : Seg → Nat
  | .metaSeg => 3
  | .progSeg => s.len

/-- The synthesis call the generator is in. A checksum point and the end have none. -/
def hiddenCall (s : State) (h : Hidden) : Call :=
  match h.stage with
  | .own =>
    match h.cmd with
    | .tone f n => toneCall f n
    | .cycle f => cycleCall f
    | .half f p => halfCall f p
    | .silence n => silenceCall n
    | .bit v => bitCall v
    | .byte d => bitCall (d.getLsbD h.bitIdx)
    | .frameMeta => silenceCall 0
    | .frameProg => silenceCall 0
    | .encode => silenceCall 0
  | .leader => leaderCall
  | .syncHigh => syncHighCall
  | .syncLow => syncLowCall
  | .payload => bitCall ((segByte s h.seg h.byteIdx).getLsbD h.bitIdx)
  | .chkPoint => silenceCall 0
  | .checksum => bitCall (h.acc.getLsbD h.bitIdx)
  | .footer => footerCall
  | .trailing => trailCall
  | .finished => silenceCall 0

/-- Enters the call the generator has come to: "It is reset to 0 at the start of every call" (rule R38). -/
def enterCall (s : State) (h : Hidden) : Hidden :=
  { h with
    phase := 0
    left := (hiddenCall s h).count }

/-- Comes to the next bit of a byte, or goes on. -/
def nextBit (s : State) (h : Hidden) (done : Hidden) : Hidden :=
  if 0 < h.bitIdx then enterCall s { h with bitIdx := h.bitIdx - 1 } else done

/-- The end of a payload byte: the accumulator takes it in (42_framer.md rule R133), then the next byte or the checksum
point. -/
def nextByte (s : State) (h : Hidden) : Hidden :=
  let acc := h.acc ^^^ segByte s h.seg h.byteIdx
  if h.byteIdx + 1 < segCount s h.seg then
    enterCall s { h with byteIdx := h.byteIdx + 1, bitIdx := 7, acc := acc }
  else enterCall s { h with stage := .chkPoint, acc := acc }

/-- Starts a segment: its leader, "seeded 0xFF at the start of each segment's payload" (rule R38). -/
def startSegment (s : State) (h : Hidden) (k : Seg) : Hidden :=
  enterCall s { h with stage := .leader, seg := k, bitIdx := 7, byteIdx := 0, acc := Config.chkSeed }

/-- After a segment's footer: only ENCODE goes on, to segment B and then to the trailing silence (42_framer.md rule R139). -/
def afterFooter (s : State) (h : Hidden) : Hidden :=
  if h.cmd = .encode then
    match h.seg with
    | .metaSeg => startSegment s h .progSeg
    | .progSeg => enterCall s { h with stage := .trailing }
  else enterCall s { h with stage := .finished }

/-- The generator after the last sample of a call, or after a checksum point. -/
def nextCall (s : State) (h : Hidden) : Hidden :=
  match h.stage with
  | .own =>
    match h.cmd with
    | .tone _ _ => enterCall s { h with stage := .finished }
    | .cycle _ => enterCall s { h with stage := .finished }
    | .half _ _ => enterCall s { h with stage := .finished }
    | .silence _ => enterCall s { h with stage := .finished }
    | .bit _ => enterCall s { h with stage := .finished }
    | .byte _ => nextBit s h (enterCall s { h with stage := .finished })
    | .frameMeta => enterCall s { h with stage := .finished }
    | .frameProg => enterCall s { h with stage := .finished }
    | .encode => enterCall s { h with stage := .finished }
  | .leader => enterCall s { h with stage := .syncHigh }
  | .syncHigh => enterCall s { h with stage := .syncLow }
  | .syncLow => enterCall s { h with stage := .payload, bitIdx := 7, byteIdx := 0 }
  | .payload => nextBit s h (nextByte s h)
  | .chkPoint => enterCall s { h with stage := .checksum, bitIdx := 7 }
  | .checksum => nextBit s h (enterCall s { h with stage := .footer })
  | .footer => afterFooter s h
  | .trailing => enterCall s { h with stage := .finished }
  | .finished => h

/-- The generator after one event. -/
def advanceHidden (s : State) (h : Hidden) : Hidden :=
  if 1 < h.left then { h with phase := h.phase + 1, left := h.left - 1 } else nextCall s h

/-- The event the generator produces next (10_state.md rule R38, 20_memory.md rule R63). -/
def hiddenEvent (s : State) (h : Hidden) : Event :=
  match h.stage with
  | .chkPoint => .setChk h.seg h.acc
  | _ => .sample (waveValue s.cfg.amplitude (hiddenCall s h).wave h.phase)

/-- The generator at the accept of a command: "Every command re-initializes what it uses" (10_state.md rule R42). DESIGN CHOICE
(log 5): the accept of a command that uses no accumulator, no bit or no byte index sets those to the same start values, so a
BIT or BYTE leaves acc at the seed; rule R42 leaves them any value and nothing shows them. -/
def startHidden (s : State) (i : Instr) : Hidden :=
  let h : Hidden :=
    { cmd := i
      stage := .own
      seg := .metaSeg
      phase := 0
      left := 0
      bitIdx := 7
      byteIdx := 0
      acc := Config.chkSeed }
  match i with
  | .tone _ _ => enterCall s h
  | .cycle _ => enterCall s h
  | .half _ _ => enterCall s h
  | .silence _ => enterCall s h
  | .bit _ => enterCall s h
  | .byte _ => enterCall s h
  | .frameMeta => startSegment s h .metaSeg
  | .frameProg => startSegment s h .progSeg
  | .encode => startSegment s h .metaSeg

/-! ### Accept, stream step, termination, reset -/

/-- A command starts: `pending <- r; mode <- Busy` (10_state.md rule R37). -/
def State.beginStream (s : State) (i : Instr) (l : List Event) : State :=
  { s with
    pending := l
    mode := .busy
    hidden := startHidden s i }

/-- The accept of a CMD write whose events or error are `r` (10_state.md rule R37). While Busy the write is dropped
(rule R29, 70_reset_and_hazards.md rule R176). -/
def accept (i : Instr) (r : Except CmdError (List Event)) (s : State) : State :=
  match s.mode with
  | .busy => s.dropWrite
  | .idle =>
    match r with
    | .error e => s.clearForAccept.raiseError e
    | .ok [] => s.clearForAccept.finish
    | .ok (e :: es) => s.clearForAccept.beginStream i (e :: es)

/-- A write of an illegal word to CMD (30_encoding.md rule R77): ILLEGAL_CMD at accept, dropped while Busy. -/
def acceptIllegal (s : State) : State :=
  match s.mode with
  | .busy => s.dropWrite
  | .idle => s.clearForAccept.raiseError .illegalCmd

/-- The events of a framer command, or its length error (42_framer.md rule R131). -/
def validated (s : State) (l : List Event) : Except CmdError (List Event) :=
  match validateLen s.len with
  | some e => .error e
  | none => .ok l

/-- SetChk(which, v) writes its CHECKSUM field (10_state.md rule R33). -/
def State.applyChk (s : State) (which : Seg) (v : Byte) : State :=
  match which with
  | .metaSeg => { s with metaChk := v }
  | .progSeg => { s with progChk := v }

/-- A transfer hands over s_data and counts it modulo 2^32 (10_state.md rules R23, R34). -/
def State.handOver (s : State) (v : Int) : State :=
  { s with
    sunk := samplePattern v :: s.sunk
    sampleCount := s.sampleCount + 1#32 }

/-- The head event leaves pending, and the hidden generator goes on with it (rules R24, R38). -/
def State.popEvent (s : State) (rest : List Event) : State :=
  { s with
    pending := rest
    hidden := advanceHidden s s.hidden }

/-- The end of a stream step: a command whose pending list has become empty terminates (rule R37). -/
def State.retire (s : State) (rest : List Event) : State :=
  match rest with
  | [] => (s.popEvent []).finish
  | e :: es => s.popEvent (e :: es)

/-- A stream step at the levels of s_ready and sink_err (10_state.md rules R23 to R25, R37). A SetChk is applied whatever
sink_err is; at a sample sink_err wins over a transfer (60_exceptions.md rules R155, R157 c, f); a sink that is not ready
leaves everything as it is. While Idle there is no stream step. -/
def streamStep (s : State) : State :=
  match s.mode, s.pending with
  | .idle, _ => s
  | .busy, [] => s
  | .busy, .setChk which v :: rest => (s.applyChk which v).retire rest
  | .busy, .sample v :: rest =>
    if s.sinkErr then s.raiseError .sink
    else if s.sReady then (s.handOver v).retire rest
    else s

/-- s_valid: the head event of a Busy CTE is a sample (10_state.md rule R23). -/
def State.sValid (s : State) : Bool :=
  match s.mode, s.pending with
  | .idle, _ => false
  | .busy, [] => false
  | .busy, .setChk _ _ :: _ => false
  | .busy, .sample _ :: _ => true

/-- s_data: the head sample's pattern while s_valid = 1, else a free value (10_state.md rules R23, R42; log 7). -/
def State.sData (s : State) : Byte :=
  match s.mode, s.pending with
  | .idle, _ => Config.sDataDraw s.draws
  | .busy, [] => Config.sDataDraw s.draws
  | .busy, .setChk _ _ :: _ => Config.sDataDraw s.draws
  | .busy, .sample v :: _ => samplePattern v

/-- The sink drives its two outputs (10_state.md rule R21). -/
def State.driveSink (s : State) (ready err : Bool) : State :=
  { s with
    sReady := ready
    sinkErr := err }

/-- Reset (10_state.md rule R42, 70_reset_and_hazards.md rule R170): every register 0, Idle, the command's remaining events
discarded, no error recorded; the buffer's bytes are unspecified again (new draws). The hidden state is left as it stands
(unspecified, rule R42; log 5). The host's and the sink's own affairs are not the CTE's (log 8). -/
def State.takeReset (s : State) : State :=
  { s with
    mode := .idle
    pending := []
    done := false
    err := false
    wwb := false
    errCode := 0#4
    length := 0#17
    loadRun := false
    irqEn := false
    metaChk := 0x00#8
    progChk := 0x00#8
    sampleCount := 0#32
    buf := []
    resets := s.resets + 1 }

/-- The start of a step: what is left of the schedule, one more step counted, no bus answer yet. -/
def State.beginStep (s : State) (rest : List EnvEvent) : State :=
  { s with
    env := rest
    draws := s.draws + 1
    busOut := none }

/-- The answer of a bus transaction (10_state.md rule R22). -/
def State.respond (s : State) (resp : Resp) (rdata : Option Word) : State :=
  { s with busOut := some ⟨resp, rdata⟩ }

end Sys2Proof.Machine
end

