-- ==== Sys2Proof/Machine/Bus.lean ====
section
/-! DEFINITION. Bus transactions (10_state.md rules R22, R28 to R35; 20_memory.md rules R51 to R56), and the host-program
notation of 30_encoding.md rule R81. -/

namespace Sys2Proof.Machine

/-- The registers of the map (10_state.md rule R28). -/
inductive Reg where
  | cmd
  | status
  | length
  | config
  | checksum
  | sampleCount
  | reserved18
  | reserved1C
  deriving DecidableEq, Repr

/-- A bus transaction other than a CMD write, by what it asks for. -/
inductive Access where
  /-- A transaction that gets resp = ERROR (20_memory.md rule R54). -/
  | unsupported
  | readReg (r : Reg)
  | writeStatus (v : Word)
  | writeLength (v : Word)
  | writeConfig (v : Word)
  /-- A write to CHECKSUM, SAMPLE_COUNT or a reserved offset (20_memory.md rule R56). -/
  | writeIgnored
  | readByte (a : Nat)
  | readWord (a : Nat)
  | writeByte (a : Nat) (v : Byte)
  | writeWord (a : Nat) (v : Word)
  deriving DecidableEq, Repr

/-- What a transaction is: a command word for CMD, or another access. -/
inductive Request where
  | command (w : Word)
  | access (a : Access)
  deriving DecidableEq, Repr

/-- The register at a word offset of the window (10_state.md rule R28). -/
def regAt (offset : Nat) : Reg :=
  if offset = 0x00 then .cmd
  else if offset = 0x04 then .status
  else if offset = 0x08 then .length
  else if offset = 0x0C then .config
  else if offset = 0x10 then .checksum
  else if offset = 0x14 then .sampleCount
  else if offset = 0x18 then .reserved18
  else .reserved1C

/-- What a supported register write asks for. -/
def writeRequest (v : Word) : Reg → Request
  | .cmd => .command v
  | .status => .access (.writeStatus v)
  | .length => .access (.writeLength v)
  | .config => .access (.writeConfig v)
  | .checksum => .access .writeIgnored
  | .sampleCount => .access .writeIgnored
  | .reserved18 => .access .writeIgnored
  | .reserved1C => .access .writeIgnored

/-- The address map and the access rules (20_memory.md rules R51, R54). DESIGN CHOICE (log 21): these come first in either mode,
so that while Busy a write of a wrong size or misaligned, to the buffer or to a register, answers ERROR and sets no STATUS bit
(rule R54) and is not a dropped write that answers OKAY and sets WWB (rule R55, 70_reset_and_hazards.md rule R176); the spec does
not order the two. -/
def classify (tx : BusTx) : Request :=
  let a := tx.addr.toNat
  if a < Config.regWindowEnd then
    if tx.size = 4 ∧ a % 4 = 0 then
      if tx.write then writeRequest tx.wdata (regAt a) else .access (.readReg (regAt a))
    else .access .unsupported
  else if a < Config.bufBase then .access .unsupported
  else if tx.size = 1 then
    if tx.write then .access (.writeByte a (tx.wdata.extractLsb' 0 8)) else .access (.readByte a)
  else if tx.size = 4 ∧ a % 4 = 0 then
    if tx.write then .access (.writeWord a tx.wdata) else .access (.readWord a)
  else .access .unsupported

/-- The value a register reads as (10_state.md rules R29 to R35). -/
def readRegister (s : State) : Reg → Word
  | .cmd => 0#32
  | .status => s.statusWord
  | .length => s.length.setWidth 32
  | .config => 0#30 ++ BitVec.ofBool s.irqEn ++ BitVec.ofBool s.loadRun
  | .checksum => 0#16 ++ s.progChk ++ s.metaChk
  | .sampleCount => s.sampleCount
  | .reserved18 => 0#32
  | .reserved1C => 0#32

/-- A write the CTE takes only while Idle; while Busy it is dropped and sets WWB (70_reset_and_hazards.md rule R176). -/
def whileIdle (s : State) (effect : State) : State :=
  match s.mode with
  | .idle => effect
  | .busy => s.dropWrite

/-- LENGTH.L <- v[16:0] (10_state.md rule R31). -/
def State.setLength (s : State) (v : Word) : State := { s with length := v.extractLsb' 0 17 }

/-- CONFIG: LOAD_RUN <- v[0], IRQ_EN <- v[1] (10_state.md rule R32). -/
def State.setConfig (s : State) (v : Word) : State :=
  { s with
    loadRun := v.getLsbD 0
    irqEn := v.getLsbD 1 }

/-- A bus transaction other than a CMD write, performed in one indivisible step (10_state.md rule R22, 20_memory.md
rule R58). An ERROR transaction changes no state and returns rdata = 0 (rule R54). -/
def perform (s : State) : Access → State
  | .unsupported => s.respond .error (some 0#32)
  | .readReg r => s.respond .okay (some (readRegister s r))
  | .writeStatus v => (s.writeStatus v).respond .okay none
  | .writeLength v => (whileIdle s (s.setLength v)).respond .okay none
  | .writeConfig v => (whileIdle s (s.setConfig v)).respond .okay none
  | .writeIgnored => s.respond .okay none
  | .readByte a => s.respond .okay (some ((s.byteAt a).setWidth 32))
  | .readWord a => s.respond .okay (some (s.wordAt a))
  | .writeByte a v => (whileIdle s (s.storeByte a v)).respond .okay none
  | .writeWord a v => (whileIdle s (s.storeWord a v)).respond .okay none

/-! ### Host-program notation (30_encoding.md rule R81) -/

/-- `WR a, v`: a 4-byte write. -/
def hostWR (a : BusAddr) (v : Word) : EnvEvent := .bus ⟨a, 4, true, v⟩

/-- `WRB a, v`: a 1-byte write. -/
def hostWRB (a : BusAddr) (v : Byte) : EnvEvent := .bus ⟨a, 1, true, v.setWidth 32⟩

/-- `RD a`: a 4-byte read. -/
def hostRD (a : BusAddr) : EnvEvent := .bus ⟨a, 4, false, 0#32⟩

/-- `CMD x`: `WR 0x00000, word(x)`. -/
def hostCMD (w : Word) : EnvEvent := hostWR 0x00000#17 w

end Sys2Proof.Machine
end

