-- ==== Sys2Proof/Machine/Framer.lean ====
section
/-! DEFINITION. The protocol framer's commands (42_framer.md): FRAME.META, FRAME.PROG, ENCODE. -/

namespace Sys2Proof.Machine

/-- The events of ENCODE after its validation: metadata segment, program segment, trailing silence (42_framer.md rule R139,
stages 2 to 4). -/
def encodeEvents (s : State) : List Event :=
  s.segment .metaSeg ++ s.segment .progSeg ++ callEvents s.cfg.amplitude trailCall

/-- FRAME.META (42_framer.md rule R136). -/
def execFrameMeta (s : State) : Host.Outcome State Fault Refusal :=
  .next (accept .frameMeta (validated s (s.segment .metaSeg)) s)

/-- FRAME.PROG (42_framer.md rule R138). -/
def execFrameProg (s : State) : Host.Outcome State Fault Refusal :=
  .next (accept .frameProg (validated s (s.segment .progSeg)) s)

/-- ENCODE (42_framer.md rule R139). -/
def execEncode (s : State) : Host.Outcome State Fault Refusal :=
  .next (accept .encode (validated s (encodeEvents s)) s)

end Sys2Proof.Machine
end

