-- ==== Sys2Proof/Machine/Fsk.lean ====
section
/-! DEFINITION. The FSK modulator's commands (41_fsk.md): BIT, BYTE. -/

namespace Sys2Proof.Machine

/-- BIT (41_fsk.md rule R122). -/
def execBit (v : Bool) (s : State) : Host.Outcome State Fault Refusal :=
  .next (accept (.bit v) (.ok (bitEvents s.cfg.amplitude v)) s)

/-- BYTE (41_fsk.md rule R124). -/
def execByte (d : Byte) (s : State) : Host.Outcome State Fault Refusal :=
  .next (accept (.byte d) (.ok (byteEvents s.cfg.amplitude d)) s)

end Sys2Proof.Machine
end

