-- ==== Sys2Proof/Machine/Synth.lean ====
section
/-! DEFINITION. The sine-wave sample generator's commands (40_synth.md): TONE, CYCLE, HALF, SILENCE. -/

namespace Sys2Proof.Machine

/-- TONE (40_synth.md rule R108). -/
def execTone (f : Freq) (n : Nat) (s : State) : Host.Outcome State Fault Refusal :=
  .next (accept (.tone f n) (.ok (callEvents s.cfg.amplitude (toneCall f n))) s)

/-- CYCLE (40_synth.md rule R109). -/
def execCycle (f : Freq) (s : State) : Host.Outcome State Fault Refusal :=
  .next (accept (.cycle f) (.ok (callEvents s.cfg.amplitude (cycleCall f))) s)

/-- HALF (40_synth.md rule R110). -/
def execHalf (f : Freq) (p : Polarity) (s : State) : Host.Outcome State Fault Refusal :=
  .next (accept (.half f p) (.ok (callEvents s.cfg.amplitude (halfCall f p))) s)

/-- SILENCE (40_synth.md rule R111). -/
def execSilence (n : Nat) (s : State) : Host.Outcome State Fault Refusal :=
  .next (accept (.silence n) (.ok (callEvents s.cfg.amplitude (silenceCall n))) s)

end Sys2Proof.Machine
end

