-- ==== Sys2Proof/Machine/Dispatch.lean ====
section
/-! DEFINITION. The meaning of each command: one arm per constructor of Instr (30_encoding.md rule R76). -/

namespace Sys2Proof.Machine

/-- What the accept of a command does (10_state.md rule R37): one meaning per row of the opcode map. -/
def exec (i : Instr) (s : State) : Host.Outcome State Fault Refusal :=
  match i with
  | .tone f n => Sys2Proof.Machine.execTone f n s
  | .cycle f => Sys2Proof.Machine.execCycle f s
  | .half f p => Sys2Proof.Machine.execHalf f p s
  | .silence n => Sys2Proof.Machine.execSilence n s
  | .bit v => Sys2Proof.Machine.execBit v s
  | .byte d => Sys2Proof.Machine.execByte d s
  | .frameMeta => Sys2Proof.Machine.execFrameMeta s
  | .frameProg => Sys2Proof.Machine.execFrameProg s
  | .encode => Sys2Proof.Machine.execEncode s

end Sys2Proof.Machine
end

