-- ==== Sys2Proof/Machine/Step.lean ====
section
/-! DEFINITION. One step of the whole machine: the next action of the host or the sink, taken from the schedule, and what the
CTE does with it (10_state.md rules R20, R37; 20_memory.md rule R59). -/

namespace Sys2Proof.Machine

/-- A write of a word to CMD: decode is checked first (30_encoding.md rule R76, 60_exceptions.md rule R157 a). -/
def runCommand (w : Word) (s : State) : Host.Outcome State Fault Refusal :=
  match decode w with
  | .ok i => exec i s
  | .error _ => .next (acceptIllegal s)

/-- One step. With a scheduled action: the host's transaction, the reset, or a stream step at the levels the sink drives.
With none: a stream step at the levels the sink holds (log 1). -/
def step (s : State) : Host.Outcome State Fault Refusal :=
  match s.env with
  | [] => .next (streamStep (s.beginStep []))
  | .stream ready err :: rest => .next (streamStep ((s.beginStep rest).driveSink ready err))
  | .rst :: rest => .next (s.beginStep rest).takeReset
  | .bus tx :: rest =>
    match classify tx with
    | .command w => runCommand w ((s.beginStep rest).respond .okay none)
    | .access a => .next (perform (s.beginStep rest) a)

/-- The state in which the very next step accepts the command word `w`: the host's CMD write stands first in the schedule,
and the CTE is Idle so that the write is an accept (10_state.md rules R29, R37; log 12). -/
def State.withFetchWord (s : State) (nbits w : Nat) : State :=
  { s with
    mode := .idle
    pending := []
    env := hostCMD (tableWord nbits w) :: s.env }

end Sys2Proof.Machine
end

