-- ==== Sys2Proof/Safety.lean ====
section
/-! DEFINITION. The terms the claims are stated in: the spec's lists written out, the state an accept gives, the invariant of
the machine, and what the hidden generator has still to produce. -/

namespace Sys2Proof.Machine

/-! ### The opcode map and the illegal words, as the spec prints them -/

/-- A row of the opcode map (30_encoding.md rule R75). -/
structure OpcodeRow where
  op : BitVec 4
  mnemonic : String
  matchWord : Word
  mask : Word
  deriving DecidableEq, Repr

/-- The opcode map (30_encoding.md rule R75). -/
def opcodeMap : List OpcodeRow :=
  [⟨0x1#4, "TONE", 0x10000000#32, 0xF3000000#32⟩,
   ⟨0x2#4, "CYCLE", 0x20000000#32, 0xF3FFFFFF#32⟩,
   ⟨0x3#4, "HALF", 0x30000000#32, 0xF1FFFFFF#32⟩,
   ⟨0x4#4, "SILENCE", 0x40000000#32, 0xFF000000#32⟩,
   ⟨0x5#4, "BIT", 0x50000000#32, 0xFFFFFFFE#32⟩,
   ⟨0x6#4, "BYTE", 0x60000000#32, 0xFFFFFF00#32⟩,
   ⟨0x7#4, "FRAME.META", 0x70000000#32, 0xFFFFFFFF#32⟩,
   ⟨0x8#4, "FRAME.PROG", 0x80000000#32, 0xFFFFFFFF#32⟩,
   ⟨0x9#4, "ENCODE", 0x90000000#32, 0xFFFFFFFF#32⟩]

/-- The mnemonic of a command (30_encoding.md rule R75). -/
def mnemonicOf : Instr → String
  | .tone _ _ => "TONE"
  | .cycle _ => "CYCLE"
  | .half _ _ => "HALF"
  | .silence _ => "SILENCE"
  | .bit _ => "BIT"
  | .byte _ => "BYTE"
  | .frameMeta => "FRAME.META"
  | .frameProg => "FRAME.PROG"
  | .encode => "ENCODE"

/-- The illegal words (30_encoding.md rule R77), by OP and the bits each format of rule R71 marks reserved: T w[25:24],
C w[25:0], H w[24:0], S w[27:24], B1 w[27:1], B8 w[27:8], Z w[27:0]. -/
def Illegal (w : Word) : Prop :=
  (w.extractLsb' 28 4 = 0x0#4 ∨ 0xA#4 ≤ w.extractLsb' 28 4) ∨
  (w.extractLsb' 28 4 = 0x1#4 ∧ w.extractLsb' 24 2 ≠ 0#2) ∨
  (w.extractLsb' 28 4 = 0x2#4 ∧ w.extractLsb' 0 26 ≠ 0#26) ∨
  (w.extractLsb' 28 4 = 0x3#4 ∧ w.extractLsb' 0 25 ≠ 0#25) ∨
  (w.extractLsb' 28 4 = 0x4#4 ∧ w.extractLsb' 24 4 ≠ 0#4) ∨
  (w.extractLsb' 28 4 = 0x5#4 ∧ w.extractLsb' 1 27 ≠ 0#27) ∨
  (w.extractLsb' 28 4 = 0x6#4 ∧ w.extractLsb' 8 20 ≠ 0#20) ∨
  ((w.extractLsb' 28 4 = 0x7#4 ∨ w.extractLsb' 28 4 = 0x8#4 ∨ w.extractLsb' 28 4 = 0x9#4) ∧ w.extractLsb' 0 28 ≠ 0#28)

/-! ### The spec's sample lists, written out -/

/-- z = trunc(x), rounding toward zero (00_scope.md rule R10). -/
def IsTrunc (x : ℝ) (z : Int) : Prop := (0 ≤ x → z = ⌊x⌋) ∧ (x ≤ 0 → z = ⌈x⌉)

/-- [ Sample(S_f[k mod P_f]) for k = 0, 1, ..., N−1 ] (40_synth.md rule R108). -/
def listTone (amp : Amplitude) (f : Freq) (n : Nat) : List Event :=
  (List.range n).map fun k => .sample (romEntry amp f (k % romPeriod f))

/-- [ Sample(σ × S_f[k]) for k = 0, 1, ..., N−1 ] (40_synth.md rule R110). -/
def listHalf (amp : Amplitude) (f : Freq) (σ : Int) (n : Nat) : List Event :=
  (List.range n).map fun k => .sample (σ * romEntry amp f k)

/-- The full cycle lists for AMPLITUDE = 381/4 (40_synth.md rule R109) and 96 (rule R112), as the spec prints them. -/
def cycleSamples : Amplitude → Freq → List Int
  | .threeQuartersOf127, .f770 => [0, 40, 73, 92, 93, 77, 46, 6, -34, -68, -90, -94, -81, -52]
  | .threeQuartersOf127, .f1000 => [0, 51, 86, 94, 72, 27, -26, -71, -94, -87, -52]
  | .threeQuartersOf127, .f2000 => [0, 86, 72, -26, -94]
  | .threeQuartersOf127, .f2500 => [0, 94, 27, -86]
  | .threeQuartersOf128, .f770 => [0, 40, 73, 92, 94, 77, 46, 6, -34, -69, -91, -95, -81, -52]
  | .threeQuartersOf128, .f1000 => [0, 51, 87, 95, 72, 27, -26, -71, -94, -87, -52]
  | .threeQuartersOf128, .f2000 => [0, 87, 72, -26, -94]
  | .threeQuartersOf128, .f2500 => [0, 94, 27, -86]

/-- The half cycle lists Half(f, HIGH) for AMPLITUDE = 381/4 (40_synth.md rule R110), as the spec prints them. -/
def halfSamples : Freq → List Int
  | .f770 => [0, 40, 73, 92, 93, 77, 46]
  | .f1000 => [0, 51, 86, 94, 72]
  | .f2000 => [0, 86]
  | .f2500 => [0, 94]

/-- Bit(v): 11 samples at 1000 Hz for 1, 5 samples at 2000 Hz for 0 (41_fsk.md rule R120). -/
def listBit (amp : Amplitude) (v : Bool) : List Event :=
  if v then listTone amp .f1000 11 else listTone amp .f2000 5

/-- ByteSamples(d) = Bit(d[7]) ++ ... ++ Bit(d[0]) (41_fsk.md rule R123). -/
def listByte (amp : Amplitude) (d : Byte) : List Event :=
  listBit amp (d.getLsbD 7) ++ listBit amp (d.getLsbD 6) ++ listBit amp (d.getLsbD 5) ++ listBit amp (d.getLsbD 4) ++
  listBit amp (d.getLsbD 3) ++ listBit amp (d.getLsbD 2) ++ listBit amp (d.getLsbD 1) ++ listBit amp (d.getLsbD 0)

/-- Segment(K, data) with its checksum c (42_framer.md rules R130, R132, R140). -/
def listSegment (amp : Amplitude) (k : Seg) (data : List Byte) (c : Byte) : List Event :=
  listTone amp .f770 44100 ++ listHalf amp .f2500 1 2 ++ listHalf amp .f2000 (-1) 2 ++
  data.flatMap (listByte amp) ++ [Event.setChk k c] ++ listByte amp c ++ listBit amp true

/-- len_low, the low byte of (L − 1)[15:0] (42_framer.md rule R135). -/
def lenLow (l : Nat) : Byte := BitVec.ofNat 8 ((l - 1) % 256)

/-- len_high, the high byte of (L − 1)[15:0] (42_framer.md rule R135). -/
def lenHigh (l : Nat) : Byte := BitVec.ofNat 8 ((l - 1) / 256)

/-- The flag byte: 0xD5 if r = 1 else 0x55 (42_framer.md rule R135). -/
def flagByte (r : Bool) : Byte := if r then 0xD5#8 else 0x55#8

/-- 0xFF ^ len_low ^ len_high ^ flag (42_framer.md rule R135). -/
def metaChecksum (l : Nat) (r : Bool) : Byte := 0xFF#8 ^^^ lenLow l ^^^ lenHigh l ^^^ flagByte r

/-- [BUF[0], BUF[1], ..., BUF[L−1]] (42_framer.md rule R137): BUF[i] is at bus address 0x10000 + i (20_memory.md rule R52). -/
def programBytes (s : State) (l : Nat) : List Byte := (List.range l).map fun i => s.byteAt (0x10000 + i)

/-- 0xFF ^ BUF[0] ^ ... ^ BUF[L−1] (42_framer.md rule R137). -/
def programChecksum (s : State) (l : Nat) : Byte := (programBytes s l).foldl (· ^^^ ·) 0xFF#8

/-- The metadata segment the registers ask for (42_framer.md rule R136). -/
def listMeta (s : State) : List Event :=
  listSegment s.cfg.amplitude .metaSeg [lenLow s.length.toNat, lenHigh s.length.toNat, flagByte s.loadRun]
    (metaChecksum s.length.toNat s.loadRun)

/-- The program segment the registers and the buffer ask for (42_framer.md rule R138). -/
def listProg (s : State) : List Event :=
  listSegment s.cfg.amplitude .progSeg (programBytes s s.length.toNat) (programChecksum s s.length.toNat)

/-- The whole encode: both segments, then 1102 zeros (42_framer.md rule R139). -/
def listEncode (s : State) : List Event := listMeta s ++ listProg s ++ List.replicate 1102 (Event.sample 0)

/-- The samples of an event list; SetChk is not a sample (42_framer.md rule R141). -/
def samplesOf : List Event → List Int
  | [] => []
  | .sample v :: l => v :: samplesOf l
  | .setChk _ _ :: l => samplesOf l

/-- The number of 1 bits of a byte, pop(d) (41_fsk.md rule R125). -/
def popCount (d : Byte) : Nat :=
  (d.getLsbD 0).toNat + (d.getLsbD 1).toNat + (d.getLsbD 2).toNat + (d.getLsbD 3).toNat +
  (d.getLsbD 4).toNat + (d.getLsbD 5).toNat + (d.getLsbD 6).toNat + (d.getLsbD 7).toNat

/-- Events(w) for a legal word (30_encoding.md rule R76): the event list of a command, or its length error. -/
def commandEvents (s : State) : Instr → Except CmdError (List Event)
  | .tone f n => .ok (callEvents s.cfg.amplitude (toneCall f n))
  | .cycle f => .ok (callEvents s.cfg.amplitude (cycleCall f))
  | .half f p => .ok (callEvents s.cfg.amplitude (halfCall f p))
  | .silence n => .ok (callEvents s.cfg.amplitude (silenceCall n))
  | .bit v => .ok (bitEvents s.cfg.amplitude v)
  | .byte d => .ok (byteEvents s.cfg.amplitude d)
  | .frameMeta => validated s (s.segment .metaSeg)
  | .frameProg => validated s (s.segment .progSeg)
  | .encode => validated s (encodeEvents s)

/-- The samples a sequence of commands streams, each issued after the one before has ended, with no register or buffer
write between them (30_encoding.md rule R81); a command that fails streams none. -/
def samplesOfCommands (s : State) (is : List Instr) : List Int :=
  is.flatMap fun i =>
    match commandEvents s i with
    | .ok l => samplesOf l
    | .error _ => []

/-! ### The state an accept gives -/

/-- The accept of a command whose event list is `l` (10_state.md rule R37): DONE at once for an empty list, else Busy with
the list pending. Everything not named keeps its value. -/
def acceptedState (s : State) (i : Instr) (l : List Event) : State :=
  if l = [] then
    { s with
      done := true
      err := false
      errCode := 0#4
      sampleCount := 0#32 }
  else
    { s with
      mode := .busy
      pending := l
      done := false
      err := false
      errCode := 0#4
      sampleCount := 0#32
      hidden := startHidden s i }

/-- The accept that terminates with an error code (10_state.md rule R37, 60_exceptions.md rules R152, R153): no sample. -/
def failedState (s : State) (code : BitVec 4) : State :=
  { s with
    pending := []
    done := false
    err := true
    errCode := code
    sampleCount := 0#32 }

/-! ### The invariant -/

/-- What every state of a run satisfies (10_state.md rules R30, R34, R37; 40_synth.md rule R102; 60_exceptions.md rules R151,
R154; the buffer's canonical form, log 3). -/
structure State.Inv (s : State) : Prop where
  /-- pending is empty exactly when Idle (rule R37). -/
  busy_iff_pending : s.mode = .busy ↔ s.pending ≠ []
  /-- DONE, ERR and ERRCODE read 0 while busy (rule R30). -/
  busy_flags : s.mode = .busy → s.done = false ∧ s.err = false ∧ s.errCode = 0#4
  /-- "DONE and ERR are never both 1" (rule R30). -/
  done_or_err : ¬(s.done = true ∧ s.err = true)
  /-- DONE leaves ERRCODE = 0 (rule R154). -/
  done_code : s.done = true → s.errCode = 0#4
  /-- ERR names a cause (rule R151). -/
  err_code : s.err = true → s.errCode ≠ 0#4
  /-- Codes 5 to 15 are never produced (rule R151). -/
  code_le : s.errCode.toNat ≤ 4
  /-- Every sample lies in [−95, 95] (rule R102). -/
  sample_range : ∀ v, Event.sample v ∈ s.pending → -95 ≤ v ∧ v ≤ 95
  /-- A command's last event is a sample, so its termination is a transfer (rule R154). -/
  last_sample : ∀ e, s.pending.getLast? = some e → ∃ v, e = Event.sample v
  /-- The counter never wraps within a command (rule R34). -/
  count_bound : s.sampleCount.toNat + (samplesOf s.pending).length ≤ 16777215
  /-- The buffer is in its canonical form. -/
  buf_wf : s.buf.wf = true

/-! ### What the hidden generator has still to produce (rule R38) -/

/-- What a framer command streams after the segment it is in (42_framer.md rule R139). -/
def afterSegment (s : State) (h : Hidden) : List Event :=
  if h.cmd = .encode then
    match h.seg with
    | .metaSeg => s.segment .progSeg ++ callEvents s.cfg.amplitude trailCall
    | .progSeg => callEvents s.cfg.amplitude trailCall
  else []

/-- What the generator produces after the call it is in. -/
def hiddenLater (s : State) (h : Hidden) : List Event :=
  match h.stage with
  | .own =>
    match h.cmd with
    | .tone _ _ => []
    | .cycle _ => []
    | .half _ _ => []
    | .silence _ => []
    | .bit _ => []
    | .byte d => bitsBelow s.cfg.amplitude d h.bitIdx
    | .frameMeta => []
    | .frameProg => []
    | .encode => []
  | .leader =>
    callEvents s.cfg.amplitude syncHighCall ++ callEvents s.cfg.amplitude syncLowCall ++
      segmentBody s.cfg.amplitude h.seg (segData s h.seg) ++ afterSegment s h
  | .syncHigh =>
    callEvents s.cfg.amplitude syncLowCall ++ segmentBody s.cfg.amplitude h.seg (segData s h.seg) ++ afterSegment s h
  | .syncLow => segmentBody s.cfg.amplitude h.seg (segData s h.seg) ++ afterSegment s h
  | .payload =>
    bitsBelow s.cfg.amplitude (segByte s h.seg h.byteIdx) h.bitIdx ++
      ((segData s h.seg).drop (h.byteIdx + 1)).flatMap (byteEvents s.cfg.amplitude) ++
      segmentEnd s.cfg.amplitude h.seg (checksum (segData s h.seg)) ++ afterSegment s h
  | .chkPoint => segmentEnd s.cfg.amplitude h.seg h.acc ++ afterSegment s h
  | .checksum =>
    bitsBelow s.cfg.amplitude h.acc h.bitIdx ++ callEvents s.cfg.amplitude footerCall ++ afterSegment s h
  | .footer => afterSegment s h
  | .trailing => []
  | .finished => []

/-- The events the generator has still to produce: the rest of its call, then what follows. -/
def hiddenRemaining (s : State) (h : Hidden) : List Event :=
  waveEvents s.cfg.amplitude (hiddenCall s h).wave h.phase h.left ++ hiddenLater s h

/-- Where the generator's counters stand at each stage (10_state.md rule R38): the call counter holds the samples left in the
current call, the bit index runs 7 to 0, the byte index within the data, and acc is the XOR of the data bytes before it. -/
def hiddenPlaced (s : State) (h : Hidden) : Prop :=
  h.phase + h.left = (hiddenCall s h).count ∧ h.bitIdx ≤ 7 ∧
  match h.stage with
  | .own => 1 ≤ h.left ∧ h.cmd ≠ .frameMeta ∧ h.cmd ≠ .frameProg ∧ h.cmd ≠ .encode
  | .leader => 1 ≤ h.left ∧ 1 ≤ s.len ∧ h.acc = 0xFF#8
  | .syncHigh => 1 ≤ h.left ∧ 1 ≤ s.len ∧ h.acc = 0xFF#8
  | .syncLow => 1 ≤ h.left ∧ 1 ≤ s.len ∧ h.acc = 0xFF#8
  | .payload =>
    1 ≤ h.left ∧ 1 ≤ s.len ∧ h.byteIdx < segCount s h.seg ∧ h.acc = checksum ((segData s h.seg).take h.byteIdx)
  | .chkPoint => 1 ≤ s.len ∧ h.acc = checksum (segData s h.seg)
  | .checksum => 1 ≤ h.left ∧ 1 ≤ s.len ∧ h.acc = checksum (segData s h.seg)
  | .footer => 1 ≤ h.left ∧ 1 ≤ s.len
  | .trailing => 1 ≤ h.left
  | .finished => False

/-- While Busy the hidden generator stands exactly where pending does: what it has still to produce is pending
(10_state.md rule R38, 92_eei_decisions.md D32). -/
def State.HiddenAgrees (s : State) : Prop :=
  s.mode = .busy → hiddenPlaced s s.hidden ∧ hiddenRemaining s s.hidden = s.pending

/-! ### What a command has streamed so far -/

/-- A CHECKSUM field after the events `l`, from the value it had before (10_state.md rule R33). -/
def chkAfter (which : Seg) (v : Byte) : List Event → Byte
  | [] => v
  | .sample _ :: l => chkAfter which v l
  | .setChk k c :: l => chkAfter which (if k = which then c else v) l

/-- From `base` to `t` exactly the events `taken` were processed: their samples were handed over in order and counted, their
checksum points applied (10_state.md rules R24, R33, R34). -/
structure Streamed (base : State) (taken : List Event) (t : State) : Prop where
  sunk : t.sunk = ((samplesOf taken).map samplePattern).reverse ++ base.sunk
  count : t.sampleCount = base.sampleCount + BitVec.ofNat 32 (samplesOf taken).length
  metaField : t.metaChk = chkAfter .metaSeg base.metaChk taken
  progField : t.progChk = chkAfter .progSeg base.progChk taken

/-- `t` has every register, the buffer and the streamed samples as `s` has them; only the schedule, the step counter, the bus
answer and the sink's levels may differ. -/
structure SameMachine (s t : State) : Prop where
  cfg : t.cfg = s.cfg
  mode : t.mode = s.mode
  pending : t.pending = s.pending
  status : t.done = s.done ∧ t.err = s.err ∧ t.wwb = s.wwb ∧ t.errCode = s.errCode
  inputs : t.length = s.length ∧ t.loadRun = s.loadRun ∧ t.irqEn = s.irqEn
  checksums : t.metaChk = s.metaChk ∧ t.progChk = s.progChk
  count : t.sampleCount = s.sampleCount
  bytes : ∀ a, t.byteAt a = s.byteAt a
  buffer : t.buf = s.buf ∧ t.resets = s.resets
  hidden : t.hidden = s.hidden
  sunk : t.sunk = s.sunk

end Sys2Proof.Machine
end

