-- ==== Sys2Proof/Certificates/Slice0/Obligations.lean ====
section
/-! DEFINITION. The statements for the provers. Each docstring names the rules of spec/ the statement rests on. -/

open Sys2Proof Sys2Proof.Machine

/-! ### Encoding (30_encoding.md) -/

/-- Decode and encode agree on every well-formed instruction: no operand bit of an encoding is dropped. -/
def Obligations.DecodeOfEncodeGivesInstruction : Prop :=
  ∀ i : Instr, i.WellFormed → decode (encode i) = .ok i

/-- Each legal word has one meaning and is that meaning's encoding; the decoder gives only well-formed instructions. -/
def Obligations.EncodeOfDecodeGivesWord : Prop :=
  ∀ (w : Word) (i : Instr), decode w = .ok i → encode i = w ∧ i.WellFormed

/-- Rule R75: a word encodes an instruction of a row exactly when `(w & mask) = match`, each row's match has the row's OP, no
two rows overlap, and a word that matches no row encodes nothing. -/
def Obligations.WordEncodesRowExactlyWhenMaskMatches : Prop :=
  (∀ r ∈ opcodeMap, r.matchWord.extractLsb' 28 4 = r.op) ∧
  (∀ (w : Word), ∀ r ∈ opcodeMap,
    (∃ i, decode w = .ok i ∧ mnemonicOf i = r.mnemonic) ↔ w &&& r.mask = r.matchWord) ∧
  (∀ (w : Word), ∀ r ∈ opcodeMap, ∀ q ∈ opcodeMap,
    w &&& r.mask = r.matchWord → w &&& q.mask = q.matchWord → r = q) ∧
  (∀ (w : Word), (∀ r ∈ opcodeMap, w &&& r.mask ≠ r.matchWord) → ∀ i, decode w ≠ .ok i)

/-- The words of rule R82 decode as that rule writes them. -/
def Obligations.ListedWordsDecodeAsWritten : Prop :=
  decode 0x1000AC44#32 = .ok (.tone .f770 44100) ∧
  decode 0x24000000#32 = .ok (.cycle .f1000) ∧
  decode 0x28000000#32 = .ok (.cycle .f2000) ∧
  decode 0x3C000000#32 = .ok (.half .f2500 .high) ∧
  decode 0x3A000000#32 = .ok (.half .f2000 .low) ∧
  decode 0x4000044E#32 = .ok (.silence 1102) ∧
  decode 0x600000A5#32 = .ok (.byte 0xA5#8) ∧
  decode 0x90000000#32 = .ok .encode ∧
  decode 0x11000000#32 = .error .reservedBitSet ∧
  decode 0x50000002#32 = .error .reservedBitSet

/-- Rule R80: each pseudo-instruction expands to the words its table gives, as a constructor and as an assembler line. -/
def Obligations.PseudoInstructionsExpandToTheirWords : Prop :=
  Pseudo.leader.expand.map encode = [0x1000AC44#32] ∧
  Pseudo.sync.expand.map encode = [0x3C000000#32, 0x3A000000#32] ∧
  Pseudo.footer.expand.map encode = [0x50000001#32] ∧
  Pseudo.one.expand.map encode = [0x50000001#32] ∧
  Pseudo.zero.expand.map encode = [0x50000000#32] ∧
  Pseudo.pad.expand.map encode = [0x4000044E#32] ∧
  assemble "LEADER" = assemble "TONE 770, 44100" ∧ assemble "LEADER" = some [0x1000AC44#32] ∧
  assemble "SYNC" = some [0x3C000000#32, 0x3A000000#32] ∧
  assemble "HALF 2500, HIGH" = some [0x3C000000#32] ∧ assemble "HALF 2000, LOW" = some [0x3A000000#32] ∧
  assemble "FOOTER" = assemble "BIT 1" ∧ assemble "FOOTER" = some [0x50000001#32] ∧
  assemble "ONE" = assemble "BIT 1" ∧ assemble "ONE" = some [0x50000001#32] ∧
  assemble "ZERO" = assemble "BIT 0" ∧ assemble "ZERO" = some [0x50000000#32] ∧
  assemble "PAD" = assemble "SILENCE 1102" ∧ assemble "PAD" = some [0x4000044E#32]

/-- Rule R77: the words the rule lists are exactly the ones the decoder refuses, 0x00000000 among them, and accepting one
while Idle terminates at once with ERR = 1, ERRCODE = 4, no sample, and no other register changed than those every accept
clears, whatever LENGTH holds. -/
def Obligations.IllegalWordTerminatesAtAcceptWithCode4 : Prop :=
  Illegal 0x00000000#32 ∧
  (∀ w : Word, Illegal w ↔ ∀ i, decode w ≠ .ok i) ∧
  (∀ (s : State) (w : Word) (rest : List EnvEvent),
    s.mode = .idle → s.env = hostCMD w :: rest → Illegal w →
    step s = .next (failedState ((s.beginStep rest).respond .okay none) 4#4))

/-! ### The sample generator (40_synth.md) -/

/-- Rule R101: sample k at frequency f with sign σ is the truncation toward zero of sin(2π·f·k / RATE) × σ × AMPLITUDE, which
is σ times the truncation without σ; AMPLITUDE = 381/4 on this hardware; σ = +1 except for a half cycle with POL = 1. -/
def Obligations.SampleIsTruncatedSine : Prop :=
  Config.thisHardware.amplitude.value = 381 / 4 ∧
  (∀ (amp : Amplitude) (f : Freq) (p : Polarity) (k : Nat),
    IsTrunc (Real.sin (2 * Real.pi * (freqHz f : ℝ) * (k : ℝ) / (11025 : ℝ)) * ((polaritySign p : Int) : ℝ) *
        ((amp.value : ℚ) : ℝ)) (sampleValue amp f p k) ∧
    ∃ z : Int,
      IsTrunc (((amp.value : ℚ) : ℝ) * Real.sin (2 * Real.pi * (freqHz f : ℝ) * (k : ℝ) / (11025 : ℝ))) z ∧
      sampleValue amp f p k = polaritySign p * z) ∧
  (∀ (f : Freq) (n : Nat), (toneCall f n).wave = .sine f .high ∧ (cycleCall f).wave = .sine f .high) ∧
  (∀ (f : Freq) (p : Polarity), (halfCall f p).wave = .sine f p) ∧
  polaritySign .high = 1 ∧ polaritySign .low = -1

/-- The tables' properties (40_synth.md section 1, properties (a) to (c), which the spec marks as derived): the zero entries,
the antisymmetry, and the stride of each table through the 1-step table of its period. -/
def Obligations.TablesHaveTheirZerosSymmetryAndStride : Prop :=
  (∀ amp : Amplitude,
    (∀ n < 315, romEntry amp .f770 n = 0 ↔ n ∈ [0, 136, 179]) ∧
    (∀ n < 441, romEntry amp .f1000 n = 0 ↔ n ∈ [0, 215, 226]) ∧
    (∀ n < 441, romEntry amp .f2000 n = 0 ↔ n ∈ [0, 113, 328]) ∧
    (∀ n < 441, romEntry amp .f2500 n = 0 ↔ n ∈ [0, 86, 355])) ∧
  (∀ (amp : Amplitude) (f : Freq), ∀ n < romPeriod f, 0 < n → romEntry amp f (romPeriod f - n) = -romEntry amp f n) ∧
  (∀ amp : Amplitude, ∀ n < 441, ∀ m < 441, (40 * m) % 441 = (80 * n) % 441 →
    romEntry amp .f2000 n = romEntry amp .f1000 m) ∧
  (∀ amp : Amplitude, ∀ n < 441, ∀ m < 441, (40 * m) % 441 = (100 * n) % 441 →
    romEntry amp .f2500 n = romEntry amp .f1000 m)

/-- Every sample value lies in [−95, 95] under both amplitudes, and both ends occur (40_synth.md section 1, which the spec marks
as derived). -/
def Obligations.SampleValuesStayWithin95 : Prop :=
  (∀ (amp : Amplitude) (f : Freq) (p : Polarity) (k : Nat), -95 ≤ sampleValue amp f p k ∧ sampleValue amp f p k ≤ 95) ∧
  (∀ amp : Amplitude, sampleValue amp .f770 .high 18 = 95 ∧ sampleValue amp .f770 .high 25 = -95)

/-- TONE, accepted while Idle: the N samples S_f[k mod P_f]; N = 0 is DONE at once, whatever sink_err is. -/
def Obligations.ToneStreamsOneCallOfN : Prop :=
  ∀ (s : State) (f : Freq) (n : Nat), s.mode = .idle →
    exec (.tone f n) s = .next (acceptedState s (.tone f n) (listTone s.cfg.amplitude f n))

/-- CYCLE, accepted while Idle: TONE with floor(11025 / f) samples, which is the list the spec prints, under either
amplitude. -/
def Obligations.CycleStreamsOnePeriod : Prop :=
  ∀ (s : State) (f : Freq), s.mode = .idle →
    exec (.cycle f) s = .next (acceptedState s (.cycle f) (listTone s.cfg.amplitude f (11025 / freqHz f))) ∧
    listTone s.cfg.amplitude f (11025 / freqHz f) = (cycleSamples s.cfg.amplitude f).map Event.sample

/-- HALF, accepted while Idle: floor(11025 / 2f) samples σ × S_f[k]; under AMPLITUDE = 381/4 the lists the spec prints, every
element negated for LOW. -/
def Obligations.HalfStreamsHalfAPeriodWithPolarity : Prop :=
  (∀ (s : State) (f : Freq), s.mode = .idle →
    exec (.half f .high) s =
      .next (acceptedState s (.half f .high) (listHalf s.cfg.amplitude f 1 (11025 / (2 * freqHz f)))) ∧
    exec (.half f .low) s =
      .next (acceptedState s (.half f .low) (listHalf s.cfg.amplitude f (-1) (11025 / (2 * freqHz f))))) ∧
  (∀ f : Freq,
    listHalf .threeQuartersOf127 f 1 (11025 / (2 * freqHz f)) = (halfSamples f).map Event.sample ∧
    listHalf .threeQuartersOf127 f (-1) (11025 / (2 * freqHz f)) = (halfSamples f).map fun v => Event.sample (-v))

/-- SILENCE, accepted while Idle: N samples, every one 0; N = 0 is DONE at once. -/
def Obligations.SilenceStreamsZeros : Prop :=
  ∀ (s : State) (n : Nat), s.mode = .idle →
    exec (.silence n) s = .next (acceptedState s (.silence n) (List.replicate n (Event.sample 0)))

/-! ### The FSK modulator (41_fsk.md) -/

/-- Rule R120: logical 1 is one cycle at 1000 Hz, 11 samples; logical 0 one cycle at 2000 Hz, 5 samples; each starts at
phase 0. Completion of BIT while Idle. -/
def Obligations.BitStreamsOneCycle : Prop :=
  ∀ (s : State), s.mode = .idle →
    exec (.bit true) s = .next (acceptedState s (.bit true) (listTone s.cfg.amplitude .f1000 11)) ∧
    exec (.bit false) s = .next (acceptedState s (.bit false) (listTone s.cfg.amplitude .f2000 5))

/-- Rule R123: BYTE, accepted while Idle, streams its eight bits most significant first; no checksum is computed (CHECKSUM and
the pending events hold none). -/
def Obligations.ByteStreamsBitsMsbFirst : Prop :=
  ∀ (s : State) (d : Byte), s.mode = .idle →
    exec (.byte d) s = .next (acceptedState s (.byte d) (listByte s.cfg.amplitude d)) ∧
    ∀ (k : Seg) (c : Byte), Event.setChk k c ∉ listByte s.cfg.amplitude d

/-- The length and the sum of a serialized byte (41_fsk.md section 1, which the spec marks as derived). -/
def Obligations.ByteLengthAndSumFollowItsOneBits : Prop :=
  ∀ d : Byte,
    (∀ amp : Amplitude, (samplesOf (byteEvents amp d)).length = 40 + 6 * popCount d) ∧
    (samplesOf (byteEvents .threeQuartersOf127 d)).sum = 38 * (8 - (popCount d : Int))

/-! ### The framer (42_framer.md) -/

/-- Rule R131: each framer command, accepted while Idle with L = 0 or L > 65536, fails at accept with code 1 or 2, no sample
emitted; with a valid L it does not fail; the other commands do not read LENGTH. -/
def Obligations.LengthIsValidatedAtAcceptByFramersOnly : Prop :=
  (∀ (s : State), s.mode = .idle → ∀ i ∈ [Instr.frameMeta, Instr.frameProg, Instr.encode],
    (s.length.toNat = 0 → exec i s = .next (failedState s 1#4)) ∧
    (65536 < s.length.toNat → exec i s = .next (failedState s 2#4)) ∧
    (1 ≤ s.length.toNat → s.length.toNat ≤ 65536 →
      ∃ t, exec i s = .next t ∧ t.mode = .busy ∧ t.err = false ∧ t.errCode = 0#4)) ∧
  (∀ (s t : State) (l : BitVec 17) (i : Instr), i ∉ [Instr.frameMeta, Instr.frameProg, Instr.encode] →
    exec i s = .next t → exec i { s with length := l } = .next { t with length := l })

/-- FRAME.META, accepted while Idle with a valid L: leader, sync, len_low, len_high, flag, checksum point, checksum byte,
footer. -/
def Obligations.FrameMetaStreamsTheMetadataSegment : Prop :=
  ∀ (s : State), s.mode = .idle → 1 ≤ s.length.toNat → s.length.toNat ≤ 65536 →
    exec .frameMeta s = .next (acceptedState s .frameMeta (listMeta s))

/-- FRAME.PROG, accepted while Idle with a valid L: the segment of BUF[0] to BUF[L−1]. A byte the host never wrote since reset
is its free draw (log 3); the statement holds for every draw. -/
def Obligations.FrameProgStreamsTheProgramSegment : Prop :=
  ∀ (s : State), s.mode = .idle → 1 ≤ s.length.toNat → s.length.toNat ≤ 65536 →
    exec .frameProg s = .next (acceptedState s .frameProg (listProg s))

/-- ENCODE, accepted while Idle with a valid L: metadata segment, program segment, 1102 zeros. -/
def Obligations.EncodeStreamsBothSegmentsAndSilence : Prop :=
  ∀ (s : State), s.mode = .idle → 1 ≤ s.length.toNat → s.length.toNat ≤ 65536 →
    exec .encode s = .next (acceptedState s .encode (listEncode s))

/-- Rule R140: every segment, of either kind and over any data, ends with the footer Bit(1) = Cycle(1000 Hz), 11 samples. -/
def Obligations.EverySegmentEndsWithTheFooter : Prop :=
  ∀ (amp : Amplitude) (k : Seg) (data : List Byte),
    (listTone amp .f1000 11).length = 11 ∧
    ∃ before, segmentEvents amp k data = before ++ listTone amp .f1000 11

/-- Rule R132: every segment starts with the leader, 44100 samples at 770 Hz, and the sync, the 2500 Hz high half cycle and
then the 2000 Hz low half cycle, three calls each starting at phase 0; under AMPLITUDE = 381/4 the leader starts
[0, 40, 73, 92, 93, 77, 46, 6] and the sync is [0, 94, 0, −86]. -/
def Obligations.EverySegmentStartsWithLeaderAndSync : Prop :=
  (∀ (amp : Amplitude) (k : Seg) (data : List Byte),
    ∃ after, segmentEvents amp k data =
      listTone amp .f770 44100 ++ listHalf amp .f2500 1 2 ++ listHalf amp .f2000 (-1) 2 ++ after) ∧
  (List.range 8).map (romEntry .threeQuartersOf127 .f770) = [0, 40, 73, 92, 93, 77, 46, 6] ∧
  listHalf .threeQuartersOf127 .f2500 1 2 ++ listHalf .threeQuartersOf127 .f2000 (-1) 2 =
    [0, 94, 0, -86].map Event.sample

/-- The checksum is the XOR of the data bytes seeded 0xFF (42_framer.md section 1); it stands in the stream as the last payload
byte, after the data; it depends only on the multiset of the data bytes. The clauses about the accumulator of the hidden
generator rest on the model's choice of the moments its values change (log 5): it is seeded 0xFF where a segment starts, takes
in each data byte as its last bit is serialized, and nothing in the leader, the sync, the checksum byte or a BIT or BYTE
command; a footer only leads on to the next segment's own seed. -/
def Obligations.ChecksumIsSeededXorOfDataBytes : Prop :=
  checksum [] = 0xFF#8 ∧
  (∀ (d : Byte) (data : List Byte), checksum (data ++ [d]) = checksum data ^^^ d) ∧
  (∀ data data' : List Byte, data.Perm data' → checksum data = checksum data') ∧
  (∀ (amp : Amplitude) (k : Seg) (data : List Byte),
    ∃ before, segmentEvents amp k data =
      before ++ data.flatMap (listByte amp) ++ [Event.setChk k (checksum data)] ++ listByte amp (checksum data) ++
        listBit amp true) ∧
  (∀ (s : State) (h : Hidden) (k : Seg), (startSegment s h k).acc = 0xFF#8) ∧
  (∀ (s : State) (h : Hidden), h.stage = .payload →
    (advanceHidden s h).acc = if h.left ≤ 1 ∧ h.bitIdx = 0 then h.acc ^^^ segByte s h.seg h.byteIdx else h.acc) ∧
  (∀ (s : State) (h : Hidden), h.stage = .footer →
    (advanceHidden s h).acc = h.acc ∨ (advanceHidden s h).stage = .leader ∧ (advanceHidden s h).acc = 0xFF#8) ∧
  (∀ (s : State) (h : Hidden), h.stage ≠ .payload → h.stage ≠ .footer → (advanceHidden s h).acc = h.acc)

/-- The checksum laws and the length encoding law (42_framer.md section 3, which the spec marks as derived), for every valid L,
both flags and every buffer. -/
def Obligations.SegmentBytesXorToZero : Prop :=
  (∀ (l : Nat) (r : Bool), 1 ≤ l → l ≤ 65536 →
    (metaData l r).foldl (· ^^^ ·) 0xFF#8 ^^^ metaChecksum l r = 0x00#8 ∧
    (lenLow l).toNat + 256 * (lenHigh l).toNat = l - 1 ∧
    metaData l r = [lenLow l, lenHigh l, flagByte r] ∧
    checksum (metaData l r) = metaChecksum l r) ∧
  (∀ (s : State) (l : Nat),
    (progData s l ++ [checksum (progData s l)]).foldl (· ^^^ ·) 0xFF#8 = 0x00#8 ∧
    checksum (progData s l) = programChecksum s l)

/-- The length of a segment: 44115 + 40 (m + 1) + 6 Σ pop(b) samples (42_framer.md section 3, which the spec marks as
derived). -/
def Obligations.SegmentLengthFollowsItsBytes : Prop :=
  ∀ (amp : Amplitude) (k : Seg) (data : List Byte),
    (samplesOf (segmentEvents amp k data)).length =
      44115 + 40 * (data.length + 1) + 6 * ((data ++ [checksum data]).map popCount).sum

/-- The bounds of an ENCODE stream (42_framer.md section 3, which the spec marks as derived): 89668 to 5856892 samples, and both
occur: L = 1 with BUF[0] = 0x00 and the load flag, and L = 65536 with every byte 0xFF. -/
def Obligations.EncodeStreamLengthIsBounded : Prop :=
  (∀ s : State, 1 ≤ s.len → s.len ≤ 65536 →
    89668 ≤ (samplesOf (encodeEvents s)).length ∧ (samplesOf (encodeEvents s)).length ≤ 5856892) ∧
  (∀ s : State, s.len = 1 → s.loadRun = false → s.bufByte 0 = 0x00#8 → (samplesOf (encodeEvents s)).length = 89668) ∧
  (∀ s : State, s.len = 65536 → (∀ i < 65536, s.bufByte i = 0xFF#8) → (samplesOf (encodeEvents s)).length = 5856892)

/-- A framer command streams the samples of the primitive commands issued one after another (42_framer.md section 3, which the
spec marks as derived). -/
def Obligations.FramersEqualTheirPrimitiveCommands : Prop :=
  ∀ s : State, 1 ≤ s.len → s.len ≤ 65536 →
    samplesOf (s.segment .metaSeg) =
      samplesOfCommands s (Pseudo.leader.expand ++ Pseudo.sync.expand ++
        [.byte (lenLow s.len), .byte (lenHigh s.len), .byte (flagByte s.loadRun), .byte (metaChecksum s.len s.loadRun)] ++
        Pseudo.footer.expand) ∧
    samplesOf (s.segment .progSeg) =
      samplesOfCommands s (Pseudo.leader.expand ++ Pseudo.sync.expand ++ (programBytes s s.len).map Instr.byte ++
        [.byte (programChecksum s s.len)] ++ Pseudo.footer.expand) ∧
    samplesOf (encodeEvents s) = samplesOfCommands s ([.frameMeta, .frameProg] ++ Pseudo.pad.expand)

/-! ### Accept, frames and the step (10_state.md) -/

/-- What the accept of any of the nine commands leaves unchanged: WWB, LENGTH, CONFIG, CHECKSUM, every byte of the buffer, the
samples the sink has, the levels it drives, the schedule; and what it clears: SAMPLE_COUNT, and ERRCODE unless it fails. -/
def Obligations.CommandAcceptFrame : Prop :=
  ∀ (i : Instr) (s t : State), s.mode = .idle → exec i s = .next t →
    t.cfg = s.cfg ∧ t.wwb = s.wwb ∧ t.length = s.length ∧ t.loadRun = s.loadRun ∧ t.irqEn = s.irqEn ∧
    t.metaChk = s.metaChk ∧ t.progChk = s.progChk ∧ (∀ a, t.byteAt a = s.byteAt a) ∧ t.buf = s.buf ∧
    t.resets = s.resets ∧ t.sunk = s.sunk ∧ t.sReady = s.sReady ∧ t.sinkErr = s.sinkErr ∧ t.env = s.env ∧
    t.busOut = s.busOut ∧ t.draws = s.draws ∧ t.sampleCount = 0#32 ∧ (t.err = false → t.errCode = 0#4) ∧
    (t.done = true ∨ t.err = true ↔ t.mode = .idle) ∧ ¬(t.done = true ∧ t.err = true)

/-- A CMD write while Busy is dropped, whichever command it is (the busy check is part of the accept, log 11): it sets WWB and
changes nothing else. -/
def Obligations.CommandWhileBusyIsDropped : Prop :=
  ∀ (i : Instr) (s : State), s.mode = .busy → exec i s = .next { s with wwb := true }

/-- A step whose action is the host's CMD write of a legal word runs exec of the decoded command, after the start of the step
(one schedule entry taken, one step counted) and with the answer OKAY. -/
def Obligations.StepRunsTheDecodedCommand : Prop :=
  ∀ (s : State) (w : Word) (i : Instr) (rest : List EnvEvent),
    s.env = hostCMD w :: rest → decode w = .ok i →
    step s = exec i { s with env := rest, draws := s.draws + 1, busOut := some ⟨.okay, none⟩ }

/-- withFetchWord: the very next step runs the instruction the table word encodes, from the Idle CTE (the model's own loading
of a command, log 12). -/
def Obligations.FetchWordIsRunByTheNextStep : Prop :=
  ∀ (s : State) (w : Nat) (i : Instr), decodeTableWord 32 w = some i →
    step (s.withFetchWord 32 w) =
      exec i { s with mode := .idle, pending := [], draws := s.draws + 1, busOut := some ⟨.okay, none⟩ }

/-- No step ends in a fault or a refusal (60_exceptions.md section 1: none of the abnormal events is a trap). -/
def Obligations.EveryStepAnswersANextState : Prop :=
  ∀ s : State, ∃ t, step s = .next t

/-- The configuration is constant: no step changes it (10_state.md section 4: AMPLITUDE is not state). -/
def Obligations.StepKeepsTheConfiguration : Prop :=
  ∀ s t : State, step s = .next t → t.cfg = s.cfg

/-! ### The stream (10_state.md rules R23 to R25, R37) -/

/-- A stream step with the sink ready and not failing hands over the head sample, counts it, and with the last event
terminates the command with DONE. -/
def Obligations.ReadySinkTakesTheHeadSample : Prop :=
  ∀ (s : State) (v : Int) (rest : List Event) (sched : List EnvEvent),
    s.mode = .busy → s.pending = .sample v :: rest → s.env = .stream true false :: sched →
    step s = .next
      { s with
        env := sched
        draws := s.draws + 1
        busOut := none
        sReady := true
        sinkErr := false
        sunk := samplePattern v :: s.sunk
        sampleCount := s.sampleCount + 1#32
        pending := rest
        mode := if rest = [] then .idle else .busy
        done := if rest = [] then true else s.done
        hidden := advanceHidden s s.hidden }

/-- While the sink is neither ready nor failing at a sample, driven so now or held so from before, s_valid stays 1 and s_data
holds the same sample (10_state.md section 2). That nothing else changes either is the model's deduction (log 15), and that an
empty schedule is a stream step at the held levels its choice (log 1). -/
def Obligations.WaitingSinkHoldsTheSample : Prop :=
  ∀ (s : State) (v : Int) (rest : List Event) (sched : List EnvEvent),
    s.mode = .busy → s.pending = .sample v :: rest →
    (s.env = .stream false false :: sched ∨ (s.env = [] ∧ sched = [] ∧ s.sReady = false ∧ s.sinkErr = false)) →
    ∃ t, step s = .next t ∧ SameMachine s t ∧ t.env = sched ∧
      s.sValid = true ∧ t.sValid = true ∧ s.sData = samplePattern v ∧ t.sData = samplePattern v

/-- At a stream step at which sink_err is 1 (driven now, or held from before), a head Sample is aborted with error SINK, ready or
not; a head SetChk is applied all the same; while Idle sink_err has no effect (10_state.md section 2). That an empty schedule is
a stream step at the held levels is the model's choice (log 1). -/
def Obligations.SinkErrIsSampledOnlyAtSamples : Prop :=
  ∀ (s : State) (ready : Bool) (sched : List EnvEvent),
    (s.env = .stream ready true :: sched ∨ (s.env = [] ∧ sched = [] ∧ s.sReady = ready ∧ s.sinkErr = true)) →
    (∀ v rest, s.mode = .busy → s.pending = .sample v :: rest →
      step s = .next
        { s with
          env := sched
          draws := s.draws + 1
          busOut := none
          sReady := ready
          sinkErr := true
          pending := []
          mode := .idle
          err := true
          errCode := 3#4 }) ∧
    (∀ k c rest, s.mode = .busy → s.pending = .setChk k c :: rest →
      ∃ t, step s = .next t ∧ t.pending = rest ∧ t.sunk = s.sunk ∧ t.sampleCount = s.sampleCount ∧
        t.err = s.err ∧ t.errCode = s.errCode ∧ t.wwb = s.wwb ∧
        t.mode = (if rest = [] then .idle else .busy) ∧ t.done = (if rest = [] then true else s.done) ∧
        t.metaChk = (if k = .metaSeg then c else s.metaChk) ∧ t.progChk = (if k = .progSeg then c else s.progChk)) ∧
    (s.mode = .idle → ∃ t, step s = .next t ∧ SameMachine s t)

/-- A fair sink that is ready and never fails takes the whole command: after as many steps as there are events the command is
DONE, the sink has every sample in order, and SAMPLE_COUNT and CHECKSUM are those of the whole list. That an empty schedule is
a stream step at the levels the sink holds is the model's choice (log 1). -/
def Obligations.ReadySinkStreamsTheWholeCommand : Prop :=
  ∀ s : State, s.mode = .busy → s.pending ≠ [] → s.env = [] → s.sReady = true → s.sinkErr = false →
    ∃ t, Host.Core.run core s.pending.length s = .next t ∧
      t.mode = .idle ∧ t.pending = [] ∧ t.done = true ∧ t.err = s.err ∧ t.errCode = s.errCode ∧
      Streamed s s.pending t

/-- Every command terminates under the fairness assumption of 70_reset_and_hazards.md: whenever the schedule holds as many
sink steps that are ready or failing as there are events, the command has ended, DONE or with code 3, by its end. The schedule
is the model's own (log 1); host transactions between the sink steps are InterleavedTransactionsLeaveTheStreamAlone's. -/
def Obligations.EveryCommandTerminatesUnderAFairSink : Prop :=
  ∀ s : State, s.Inv → s.mode = .busy →
    (∀ e ∈ s.env, ∃ ready err, e = .stream ready err) →
    s.pending.length ≤ (s.env.filter fun e => decide (e ≠ .stream false false)).length →
    ∃ t, Host.Core.run core s.env.length s = .next t ∧ t.mode = .idle ∧
      ((t.done = true ∧ t.err = false ∧ t.errCode = 0#4) ∨ (t.done = false ∧ t.err = true ∧ t.errCode = 3#4))

/-- The termination is precise and the stream in order: from the accept of the event list `l` on, each step but a reset keeps
the machine at a point of `l` (the events taken so far streamed, the rest pending), or ends it DONE with all of `l` streamed,
or ends it with code 3 with exactly the events taken so far streamed. -/
def Obligations.StreamIsAlwaysAPrefixOfItsCommand : Prop :=
  ∀ (base s t : State) (l taken : List Event),
    s.Inv → s.mode = .busy → l = taken ++ s.pending → Streamed base taken s →
    (∀ sched, s.env ≠ .rst :: sched) → step s = .next t →
    (t.mode = .busy ∧ ∃ more, l = taken ++ more ++ t.pending ∧ Streamed base (taken ++ more) t) ∨
    (t.mode = .idle ∧ t.done = true ∧ t.err = false ∧ Streamed base l t) ∨
    (t.mode = .idle ∧ t.done = false ∧ t.err = true ∧ t.errCode = 3#4 ∧ Streamed base taken t)

/-- The only way a sample reaches the sink is a transfer of the head of pending while Busy, counted once. -/
def Obligations.OnlyTransfersReachTheSink : Prop :=
  ∀ s t : State, step s = .next t →
    t.sunk = s.sunk ∨
    ∃ v rest, s.mode = .busy ∧ s.pending = .sample v :: rest ∧ t.pending = rest ∧
      t.sunk = samplePattern v :: s.sunk ∧ t.sampleCount = s.sampleCount + 1#32 ∧
      t.sReady = true ∧ t.sinkErr = false

/-- The CHECKSUM fields are written only by the checksum point at the head of pending, and by reset. -/
def Obligations.ChecksumIsWrittenOnlyAtItsPoint : Prop :=
  ∀ s t : State, step s = .next t → (∀ sched, s.env ≠ .rst :: sched) →
    (t.metaChk ≠ s.metaChk → ∃ rest, s.mode = .busy ∧ s.pending = .setChk .metaSeg t.metaChk :: rest) ∧
    (t.progChk ≠ s.progChk → ∃ rest, s.mode = .busy ∧ s.pending = .setChk .progSeg t.progChk :: rest)

/-- Rule R160: a command, once accepted, runs until it terminates (its last event processed, or a SINK abort) or until
reset. -/
def Obligations.OnlyTerminationOrResetEndsACommand : Prop :=
  ∀ s t : State, s.mode = .busy → step s = .next t → t.mode = .idle →
    (∃ e, s.pending = [e] ∧ t.done = true) ∨
    (∃ v rest, s.pending = .sample v :: rest ∧ t.sinkErr = true ∧ t.err = true ∧ t.errCode = 3#4) ∨
    (∃ sched, s.env = .rst :: sched)

/-! ### Bus transactions (10_state.md rules R28 to R35, 20_memory.md, 70_reset_and_hazards.md) -/

/-- A read of each register, in either mode, answers OKAY with its fields at their bits and its reserved bits 0, and changes
nothing. -/
def Obligations.RegisterReadsReturnTheirFields : Prop :=
  ∀ (s : State) (rest : List EnvEvent),
    (s.env = hostRD 0x00#17 :: rest → step s = .next ((s.beginStep rest).respond .okay (some 0#32))) ∧
    (s.env = hostRD 0x04#17 :: rest → ∃ x : Word, step s = .next ((s.beginStep rest).respond .okay (some x)) ∧
      x.getLsbD 0 = decide (s.mode = .busy) ∧ x.getLsbD 1 = s.done ∧ x.getLsbD 2 = s.err ∧ x.getLsbD 3 = s.wwb ∧
      x.extractLsb' 4 4 = s.errCode ∧ x.extractLsb' 8 24 = 0#24) ∧
    (s.env = hostRD 0x08#17 :: rest → ∃ x : Word, step s = .next ((s.beginStep rest).respond .okay (some x)) ∧
      x.extractLsb' 0 17 = s.length ∧ x.extractLsb' 17 15 = 0#15) ∧
    (s.env = hostRD 0x0C#17 :: rest → ∃ x : Word, step s = .next ((s.beginStep rest).respond .okay (some x)) ∧
      x.getLsbD 0 = s.loadRun ∧ x.getLsbD 1 = s.irqEn ∧ x.extractLsb' 2 30 = 0#30) ∧
    (s.env = hostRD 0x10#17 :: rest → ∃ x : Word, step s = .next ((s.beginStep rest).respond .okay (some x)) ∧
      x.extractLsb' 0 8 = s.metaChk ∧ x.extractLsb' 8 8 = s.progChk ∧ x.extractLsb' 16 16 = 0#16) ∧
    (s.env = hostRD 0x14#17 :: rest → step s = .next ((s.beginStep rest).respond .okay (some s.sampleCount)))

/-- Rule R35: offsets 0x18 and 0x1C read 0, ignore writes, never set WWB and never answer ERROR, in either mode; reserved
fields of the other registers read 0 and ignore writes. -/
def Obligations.ReservedOffsetsAndFieldsReadZeroIgnoreWrites : Prop :=
  (∀ (s : State) (rest : List EnvEvent) (v : Word), ∀ a ∈ [0x18#17, 0x1C#17],
    (s.env = hostRD a :: rest → step s = .next ((s.beginStep rest).respond .okay (some 0#32))) ∧
    (s.env = hostWR a v :: rest → step s = .next ((s.beginStep rest).respond .okay none))) ∧
  (∀ s : State,
    (readRegister s .status).extractLsb' 8 24 = 0#24 ∧ (readRegister s .length).extractLsb' 17 15 = 0#15 ∧
    (readRegister s .config).extractLsb' 2 30 = 0#30 ∧ (readRegister s .checksum).extractLsb' 16 16 = 0#16) ∧
  (∀ (s : State) (rest : List EnvEvent) (v w : Word),
    (v.extractLsb' 0 8 = w.extractLsb' 0 8 →
      step { s with env := hostWR 0x04#17 v :: rest } = step { s with env := hostWR 0x04#17 w :: rest }) ∧
    (v.extractLsb' 0 17 = w.extractLsb' 0 17 →
      step { s with env := hostWR 0x08#17 v :: rest } = step { s with env := hostWR 0x08#17 w :: rest }) ∧
    (v.extractLsb' 0 2 = w.extractLsb' 0 2 →
      step { s with env := hostWR 0x0C#17 v :: rest } = step { s with env := hostWR 0x0C#17 w :: rest }) ∧
    step { s with env := hostWR 0x10#17 v :: rest } = step { s with env := hostWR 0x10#17 w :: rest })

/-- A STATUS write, in either mode, clears exactly the bits among DONE, ERR and WWB that are written as 1; BUSY and ERRCODE
keep their values. -/
def Obligations.StatusWriteClearsBitsWrittenAsOne : Prop :=
  ∀ (s : State) (rest : List EnvEvent) (v : Word), s.env = hostWR 0x04#17 v :: rest →
    step s = .next
      { s with
        env := rest
        draws := s.draws + 1
        busOut := some ⟨.okay, none⟩
        done := s.done && !v.getLsbD 1
        err := s.err && !v.getLsbD 2
        wwb := s.wwb && !v.getLsbD 3 }

/-- WWB is sticky: only a STATUS write with bit 3 set, or a reset, clears it. -/
def Obligations.WwbIsStickyUntilClearedOrReset : Prop :=
  ∀ s t : State, s.wwb = true → step s = .next t → t.wwb = false →
    (∃ sched, s.env = .rst :: sched) ∨ (∃ v sched, s.env = hostWR 0x04#17 v :: sched ∧ v.getLsbD 3 = true)

/-- While Idle, a write to LENGTH stores the low 17 bits and to CONFIG the low 2, changing nothing else, and a read that
follows returns them: 0xFFFFFFFF reads back as 0x0001FFFF and 0x00000003. -/
def Obligations.LengthAndConfigWritesReadBack : Prop :=
  ∀ (s : State) (rest : List EnvEvent) (v : Word), s.mode = .idle →
    (s.env = hostWR 0x08#17 v :: hostRD 0x08#17 :: rest →
      Host.Core.run core 2 s = .next
        { s with
          env := rest
          draws := s.draws + 2
          busOut := some ⟨.okay, some (v &&& 0x0001FFFF#32)⟩
          length := v.extractLsb' 0 17 }) ∧
    (s.env = hostWR 0x0C#17 v :: hostRD 0x0C#17 :: rest →
      Host.Core.run core 2 s = .next
        { s with
          env := rest
          draws := s.draws + 2
          busOut := some ⟨.okay, some (v &&& 0x00000003#32)⟩
          loadRun := v.getLsbD 0
          irqEn := v.getLsbD 1 })

/-- While Busy a write to CMD, LENGTH, CONFIG or the buffer answers OKAY, changes none of them and sets WWB; a STATUS write is
performed; writes to CHECKSUM, SAMPLE_COUNT and the reserved offsets are ignored and do not set WWB; reads are not affected
(70_reset_and_hazards.md section 3). The writes meant are those of a supported size and alignment: that any other answers ERROR
while Busy too is the model's choice (log 21) and stands in UnsupportedTransactionsGetErrorAndChangeNothing. -/
def Obligations.WritesWhileBusyAreDroppedAndSetWwb : Prop :=
  ∀ (s : State) (rest : List EnvEvent) (tx : BusTx), s.mode = .busy → s.env = .bus tx :: rest →
    (tx.write = true →
      ((tx.size = 4 ∧ tx.addr ∈ [0x00#17, 0x08#17, 0x0C#17]) ∨
        (0x10000 ≤ tx.addr.toNat ∧ (tx.size = 1 ∨ (tx.size = 4 ∧ tx.addr.toNat % 4 = 0)))) →
      step s = .next
        { s with
          env := rest
          draws := s.draws + 1
          busOut := some ⟨.okay, none⟩
          wwb := true }) ∧
    (tx.write = true → tx.size = 4 → tx.addr = 0x04#17 →
      step s = .next (((s.beginStep rest).writeStatus tx.wdata).respond .okay none)) ∧
    (tx.write = true → tx.size = 4 → tx.addr ∈ [0x10#17, 0x14#17, 0x18#17, 0x1C#17] →
      step s = .next ((s.beginStep rest).respond .okay none)) ∧
    (tx.write = false →
      ∃ resp rdata, step s = .next ((s.beginStep rest).respond resp (some rdata)) ∧
        step { s with mode := .idle } =
          .next (({ s with mode := .idle }.beginStep rest).respond resp
            (some (if tx.addr = 0x04#17 ∧ tx.size = 4 then rdata &&& 0xFFFFFFFE#32 else rdata))))

/-- A transaction (20_memory.md section 2) gets ERROR exactly when its address is in the hole, it is in the register window with a size other
than 4 or misaligned, it is in the buffer with size 4 and misaligned, or its size is neither 1 nor 4; then it changes no
state and returns rdata = 0. That this holds of a write while Busy too is the model's choice (log 21). -/
def Obligations.UnsupportedTransactionsGetErrorAndChangeNothing : Prop :=
  ∀ (s : State) (rest : List EnvEvent) (tx : BusTx), s.env = .bus tx :: rest →
    (((0x00020 ≤ tx.addr.toNat ∧ tx.addr.toNat ≤ 0x0FFFF) ∨
        (tx.addr.toNat < 0x20 ∧ (tx.size ≠ 4 ∨ tx.addr.toNat % 4 ≠ 0)) ∨
        (0x10000 ≤ tx.addr.toNat ∧ tx.size = 4 ∧ tx.addr.toNat % 4 ≠ 0) ∨ (tx.size ≠ 1 ∧ tx.size ≠ 4)) →
      step s = .next ((s.beginStep rest).respond .error (some 0#32))) ∧
    (¬((0x00020 ≤ tx.addr.toNat ∧ tx.addr.toNat ≤ 0x0FFFF) ∨
        (tx.addr.toNat < 0x20 ∧ (tx.size ≠ 4 ∨ tx.addr.toNat % 4 ≠ 0)) ∨
        (0x10000 ≤ tx.addr.toNat ∧ tx.size = 4 ∧ tx.addr.toNat % 4 ≠ 0) ∨ (tx.size ≠ 1 ∧ tx.size ≠ 4)) →
      ∃ t out, step s = .next t ∧ t.busOut = some out ∧ out.resp = .okay)

/-- Rule R53: buffer reads and, while Idle, buffer writes: one byte, or four little-endian; every byte outside the stored ones
reads as before, and nothing else changes. -/
def Obligations.BufferAccessesAreLittleEndian : Prop :=
  ∀ (s : State) (rest : List EnvEvent) (a : BusAddr), 0x10000 ≤ a.toNat →
    (s.env = .bus ⟨a, 1, false, 0#32⟩ :: rest →
      step s = .next ((s.beginStep rest).respond .okay (some (0#24 ++ s.byteAt a.toNat)))) ∧
    (a.toNat % 4 = 0 → s.env = hostRD a :: rest →
      step s = .next ((s.beginStep rest).respond .okay
        (some (s.byteAt (a.toNat + 3) ++ s.byteAt (a.toNat + 2) ++ s.byteAt (a.toNat + 1) ++ s.byteAt a.toNat)))) ∧
    (∀ v : Word, s.mode = .idle → s.env = .bus ⟨a, 1, true, v⟩ :: rest →
      ∃ m, step s = .next { s with env := rest, draws := s.draws + 1, busOut := some ⟨.okay, none⟩, buf := m } ∧
        ∀ b, { s with buf := m }.byteAt b = if b = a.toNat then v.extractLsb' 0 8 else s.byteAt b) ∧
    (∀ v : Word, s.mode = .idle → a.toNat % 4 = 0 → s.env = hostWR a v :: rest →
      ∃ m, step s = .next { s with env := rest, draws := s.draws + 1, busOut := some ⟨.okay, none⟩, buf := m } ∧
        ∀ b, { s with buf := m }.byteAt b =
          if b = a.toNat then v.extractLsb' 0 8
          else if b = a.toNat + 1 then v.extractLsb' 8 8
          else if b = a.toNat + 2 then v.extractLsb' 16 8
          else if b = a.toNat + 3 then v.extractLsb' 24 8
          else s.byteAt b)

/-- A read, of any size and address, changes nothing: only the answer, the step counter and the schedule differ. -/
def Obligations.ReadsHaveNoSideEffect : Prop :=
  ∀ (s t : State) (rest : List EnvEvent) (tx : BusTx), s.env = .bus tx :: rest → tx.write = false →
    step s = .next t → SameMachine s t ∧ t.sReady = s.sReady ∧ t.sinkErr = s.sinkErr ∧ t.env = rest

/-- While Busy no step but a reset changes LENGTH, CONFIG or any byte of the buffer: the command's inputs are frozen at
accept. -/
def Obligations.InputsAreFrozenWhileBusy : Prop :=
  ∀ s t : State, s.mode = .busy → (∀ sched, s.env ≠ .rst :: sched) → step s = .next t →
    t.length = s.length ∧ t.loadRun = s.loadRun ∧ t.irqEn = s.irqEn ∧ t.buf = s.buf ∧ ∀ a, t.byteAt a = s.byteAt a

/-- The stream does not depend on how host transactions interleave with it (CMD writes while Busy are left to
CommandWhileBusyIsDropped and WritesWhileBusyAreDroppedAndSetWwb; the schedule is the model's own, log 1): a schedule without resets and CMD writes and the
same schedule with every host transaction struck out leave the same samples with the sink, the same count and checksums, and
the same events pending. -/
def Obligations.InterleavedTransactionsLeaveTheStreamAlone : Prop :=
  ∀ (s t u : State) (sched : List EnvEvent),
    (∀ e ∈ sched, e ≠ .rst ∧ ∀ w, e ≠ hostCMD w) →
    Host.Core.run core sched.length { s with env := sched } = .next t →
    Host.Core.run core (sched.filter fun e => match e with | .stream _ _ => true | .bus _ => false | .rst => false).length
      { s with env := sched.filter fun e => match e with | .stream _ _ => true | .bus _ => false | .rst => false } =
        .next u →
    t.sunk = u.sunk ∧ t.sampleCount = u.sampleCount ∧ t.metaChk = u.metaChk ∧ t.progChk = u.progChk ∧
      t.pending = u.pending ∧ t.mode = u.mode

/-! ### Interrupt and reset (10_state.md rules R26, R27, R42; 70_reset_and_hazards.md) -/

/-- Rule R26: irq = IRQ_EN & (DONE | ERR); it is cleared by clearing DONE and ERR, by clearing IRQ_EN, or by the accept of a
command that then streams. -/
def Obligations.IrqFollowsEnableAndTermination : Prop :=
  ∀ s : State,
    (s.irq = true ↔ s.irqEn = true ∧ (s.done = true ∨ s.err = true)) ∧
    (∀ rest t, s.env = hostWR 0x04#17 0x00000006#32 :: rest → step s = .next t → t.irq = false) ∧
    (∀ rest t v, s.mode = .idle → s.env = hostWR 0x0C#17 v :: rest → v.getLsbD 1 = false → step s = .next t →
      t.irq = false) ∧
    (∀ i t, s.mode = .idle → exec i s = .next t → t.mode = .busy → t.irq = false)

/-- rst, in any mode, puts every register in its reset value and discards the command's remaining events: Idle, s_valid = 0,
irq = 0 (10_state.md sections 2 and 5). The other clauses are the model's: every byte of the buffer is the draw of the new
reset count (log 3), the sink's record (log 8), its levels (log 2), the configuration (log 6) and the schedule (log 1) are kept. -/
def Obligations.ResetPutsEveryRegisterInItsResetValue : Prop :=
  ∀ (s : State) (sched : List EnvEvent), s.env = .rst :: sched →
    ∃ t, step s = .next t ∧
      t.mode = .idle ∧ t.pending = [] ∧ t.statusWord = 0#32 ∧ t.done = false ∧ t.err = false ∧ t.wwb = false ∧
      t.errCode = 0#4 ∧ t.length = 0#17 ∧ t.loadRun = false ∧ t.irqEn = false ∧ t.metaChk = 0#8 ∧ t.progChk = 0#8 ∧
      t.sampleCount = 0#32 ∧ t.sValid = false ∧ t.irq = false ∧
      (∀ a, t.byteAt a = Config.bufferDraw (s.resets + 1) a) ∧
      t.cfg = s.cfg ∧ t.sunk = s.sunk ∧ t.sReady = s.sReady ∧ t.sinkErr = s.sinkErr ∧ t.env = sched

/-- Rule R171: after reset the CTE is Idle with nothing pending, irq masked and load mode "load only"; an Idle CTE runs nothing
until the host writes CMD: any other step leaves it Idle, with nothing pending and no sample handed over. -/
def Obligations.IdleRunsNothingUntilCmdIsWritten : Prop :=
  State.reset.mode = .idle ∧ State.reset.pending = [] ∧ State.reset.irqEn = false ∧ State.reset.done = false ∧
  State.reset.err = false ∧ State.reset.loadRun = false ∧ State.reset.irq = false ∧
  (∀ s t : State, s.mode = .idle → s.pending = [] → (∀ w sched, s.env ≠ hostCMD w :: sched) → step s = .next t →
    t.mode = .idle ∧ t.pending = [] ∧ t.sunk = s.sunk)

/-! ### Invariants -/

/-- The invariant holds at reset. -/
def Obligations.InvariantHoldsAtReset : Prop := State.reset.Inv ∧ State.reset.HiddenAgrees

/-- Every step keeps the invariant: pending is empty exactly when Idle, the STATUS fields are consistent, every pending sample
lies in [−95, 95], SAMPLE_COUNT cannot wrap within a command, the buffer keeps its canonical form. -/
def Obligations.EveryStepKeepsTheInvariant : Prop :=
  ∀ s t : State, s.Inv → step s = .next t → t.Inv

/-- The hidden generator, which reads LENGTH, CONFIG and the buffer while it streams, stands where pending does in every state a
step leads to from such a state, and its next event is always the head of pending: the lazy hardware and the list computed at
accept are one stream. The field cmd and the moments the counters change are the model's choice (log 5). -/
def Obligations.HiddenGeneratorRefinesPending : Prop :=
  (∀ s t : State, s.Inv → s.HiddenAgrees → step s = .next t → t.HiddenAgrees) ∧
  (∀ (s : State) (e : Event) (rest : List Event), s.mode = .busy → s.HiddenAgrees → s.pending = e :: rest →
    hiddenEvent s s.hidden = e)
end

