-- ==== Sys2Proof/Laws/Lists.lean ====
section
/-! SUPPORT. The event lists of the operations against the spec's lists of Sys2Proof/Safety.lean, and the samples in them. -/

namespace Sys2Proof.Machine

/-! ### The lists are the spec's -/

/-- The samples of a wave from its start, index by index. -/
theorem waveEvents_zero (amp : Amplitude) (w : Wave) (n : Nat) :
    waveEvents amp w 0 n = (List.range n).map fun k => Event.sample (waveValue amp w k) := by
  simp [waveEvents, List.range_eq_range']

/-- A tone's events are [S_f[k mod P_f]] (40_synth.md rule R108). -/
theorem callEvents_tone (amp : Amplitude) (f : Freq) (n : Nat) : callEvents amp (toneCall f n) = listTone amp f n := by
  simp [callEvents, toneCall, waveEvents_zero, listTone, waveValue, sampleValue, polaritySign]

/-- A cycle is a tone of floor(RATE / f) samples (40_synth.md rule R109). -/
theorem callEvents_cycle (amp : Amplitude) (f : Freq) : callEvents amp (cycleCall f) = listTone amp f (11025 / freqHz f) :=
  callEvents_tone amp f _

/-- A half cycle ends before its table's period does (40_synth.md rule R104). -/
theorem halfCount_lt_period (f : Freq) : halfCount f < romPeriod f := by
  cases f <;> decide

/-- A half cycle's events are [σ × S_f[k]] (40_synth.md rule R110). -/
theorem callEvents_half (amp : Amplitude) (f : Freq) (p : Polarity) :
    callEvents amp (halfCall f p) = listHalf amp f (polaritySign p) (11025 / (2 * freqHz f)) := by
  simp only [callEvents, halfCall, waveEvents_zero, listHalf, waveValue, sampleValue]
  refine List.map_congr_left fun k hk => ?_
  have h : k < halfCount f := List.mem_range.mp hk
  rw [Nat.mod_eq_of_lt (h.trans (halfCount_lt_period f))]

/-- Silence is N zeros (40_synth.md rule R111). -/
theorem callEvents_silence (amp : Amplitude) (n : Nat) :
    callEvents amp (silenceCall n) = List.replicate n (Event.sample 0) := by
  simp [callEvents, silenceCall, waveEvents_zero, waveValue]

/-- A bit is one cycle of its frequency (41_fsk.md rule R120). -/
theorem bitEvents_eq (amp : Amplitude) (v : Bool) : bitEvents amp v = listBit amp v := by
  cases v <;> exact callEvents_cycle amp _

/-- A byte is its bits, most significant first (41_fsk.md rule R123). -/
theorem byteEvents_eq (amp : Amplitude) (d : Byte) : byteEvents amp d = listByte amp d := by
  simp [byteEvents, bitsBelow, listByte, bitEvents_eq]

/-- The footer is Bit(1) (42_framer.md rule R140). -/
theorem callEvents_footer (amp : Amplitude) : callEvents amp footerCall = listBit amp true := bitEvents_eq amp true

/-- A segment is the spec's list (42_framer.md rule R130). -/
theorem segment_eq (amp : Amplitude) (k : Seg) (data : List Byte) :
    segmentEvents amp k data = listSegment amp k data (checksum data) := by
  have hl : callEvents amp leaderCall = listTone amp .f770 44100 := callEvents_tone amp _ _
  have hh : callEvents amp syncHighCall = listHalf amp .f2500 1 2 := callEvents_half amp _ _
  have hw : callEvents amp syncLowCall = listHalf amp .f2000 (-1) 2 := callEvents_half amp _ _
  have hb : byteEvents amp = listByte amp := funext (byteEvents_eq amp)
  simp [segmentEvents, segmentBody, segmentEnd, listSegment, hl, hh, hw, hb, callEvents_footer]

/-- The metadata bytes are len_low, len_high and the flag (42_framer.md rule R135). -/
theorem metaData_eq (l : Nat) (r : Bool) : metaData l r = [lenLow l, lenHigh l, flagByte r] := by
  have h1 : (BitVec.ofNat 16 (l - 1)).extractLsb' 0 8 = lenLow l := by
    apply BitVec.eq_of_toNat_eq
    simp [lenLow, BitVec.extractLsb'_toNat]
  have h2 : (BitVec.ofNat 16 (l - 1)).extractLsb' 8 8 = lenHigh l := by
    apply BitVec.eq_of_toNat_eq
    simp [lenHigh, BitVec.extractLsb'_toNat, Nat.shiftRight_eq_div_pow]
    omega
  have h3 : loadFlag r = flagByte r := by cases r <;> rfl
  simp [metaData, h1, h2, h3]

/-- The checksum of the metadata bytes (42_framer.md rule R135). -/
theorem checksum_metaData (l : Nat) (r : Bool) : checksum (metaData l r) = metaChecksum l r := by
  rw [metaData_eq]
  rfl

/-- The program bytes are the buffer's (42_framer.md rule R137). -/
theorem progData_eq (s : State) (l : Nat) : progData s l = programBytes s l := by
  simp [progData, programBytes, List.range_eq_range', State.bufByte, bufAddr, Config.bufBase]

/-- The checksum of the program bytes (42_framer.md rule R137). -/
theorem checksum_progData (s : State) (l : Nat) : checksum (progData s l) = programChecksum s l := by
  rw [progData_eq]
  rfl

/-- The metadata segment of a valid length is the spec's list. -/
theorem segment_meta (s : State) : s.segment .metaSeg = listMeta s := by
  rw [State.segment, segment_eq, segData, checksum_metaData, metaData_eq]
  rfl

/-- The program segment is the spec's list. -/
theorem segment_prog (s : State) : s.segment .progSeg = listProg s := by
  rw [State.segment, segment_eq, segData, checksum_progData, progData_eq]
  rfl

/-- The events of ENCODE are the spec's list. -/
theorem encodeEvents_eq (s : State) : encodeEvents s = listEncode s := by
  have ht : callEvents s.cfg.amplitude trailCall = List.replicate 1102 (Event.sample 0) := callEvents_silence _ _
  rw [encodeEvents, segment_meta, segment_prog, ht]
  rfl

/-! ### Samples of a list -/

@[simp] theorem samplesOf_nil : samplesOf [] = [] := rfl

@[simp] theorem samplesOf_sample (v : Int) (l : List Event) : samplesOf (.sample v :: l) = v :: samplesOf l := rfl

@[simp] theorem samplesOf_setChk (k : Seg) (c : Byte) (l : List Event) : samplesOf (.setChk k c :: l) = samplesOf l := rfl

@[simp] theorem samplesOf_append (l m : List Event) : samplesOf (l ++ m) = samplesOf l ++ samplesOf m := by
  induction l with
  | nil => rfl
  | cons e l ih => cases e <;> simp [ih]

@[simp] theorem samplesOf_map_sample {α : Type} (g : α → Int) (l : List α) :
    samplesOf (l.map fun x => Event.sample (g x)) = l.map g := by
  induction l with
  | nil => rfl
  | cons x l ih => simp [ih]

/-- A wave's events hold as many samples as they are long. -/
@[simp] theorem samplesOf_waveEvents_length (amp : Amplitude) (w : Wave) (k n : Nat) :
    (samplesOf (waveEvents amp w k n)).length = n := by
  simp [waveEvents]

/-- A call's events hold its count of samples. -/
@[simp] theorem samplesOf_callEvents_length (amp : Amplitude) (c : Call) :
    (samplesOf (callEvents amp c)).length = c.count := by
  simp [callEvents]

/-- A wave's first event, and the rest. -/
theorem waveEvents_succ (amp : Amplitude) (w : Wave) (k n : Nat) :
    waveEvents amp w k (n + 1) = Event.sample (waveValue amp w k) :: waveEvents amp w (k + 1) n := by
  simp [waveEvents, List.range']

@[simp] theorem waveEvents_none (amp : Amplitude) (w : Wave) (k : Nat) : waveEvents amp w k 0 = [] := rfl

/-- A whole call from its phase 0. -/
theorem callEvents_eq (amp : Amplitude) (c : Call) : callEvents amp c = waveEvents amp c.wave 0 c.count := rfl

/-- Checksum: one more data byte. -/
theorem checksum_append (data : List Byte) (d : Byte) : checksum (data ++ [d]) = checksum data ^^^ d := by
  simp [checksum]

end Sys2Proof.Machine
end

