-- ==== Sys2Proof/Laws/State.lean ====
section
/-! SUPPORT. One lemma per field per update of the state: what each named update of Machine/Memory, Flags, Ops and Bus
leaves in each field. True by rfl, so that no later proof unfolds a record update. -/

namespace Sys2Proof.Machine

/-! ### storeByte -/

@[simp] theorem State.storeByte_cfg (s : State) (a : Nat) (v : Byte) : (s.storeByte a v).cfg = s.cfg := rfl
@[simp] theorem State.storeByte_mode (s : State) (a : Nat) (v : Byte) : (s.storeByte a v).mode = s.mode := rfl
@[simp] theorem State.storeByte_pending (s : State) (a : Nat) (v : Byte) : (s.storeByte a v).pending = s.pending := rfl
@[simp] theorem State.storeByte_done (s : State) (a : Nat) (v : Byte) : (s.storeByte a v).done = s.done := rfl
@[simp] theorem State.storeByte_err (s : State) (a : Nat) (v : Byte) : (s.storeByte a v).err = s.err := rfl
@[simp] theorem State.storeByte_wwb (s : State) (a : Nat) (v : Byte) : (s.storeByte a v).wwb = s.wwb := rfl
@[simp] theorem State.storeByte_errCode (s : State) (a : Nat) (v : Byte) : (s.storeByte a v).errCode = s.errCode := rfl
@[simp] theorem State.storeByte_length (s : State) (a : Nat) (v : Byte) : (s.storeByte a v).length = s.length := rfl
@[simp] theorem State.storeByte_loadRun (s : State) (a : Nat) (v : Byte) : (s.storeByte a v).loadRun = s.loadRun := rfl
@[simp] theorem State.storeByte_irqEn (s : State) (a : Nat) (v : Byte) : (s.storeByte a v).irqEn = s.irqEn := rfl
@[simp] theorem State.storeByte_metaChk (s : State) (a : Nat) (v : Byte) : (s.storeByte a v).metaChk = s.metaChk := rfl
@[simp] theorem State.storeByte_progChk (s : State) (a : Nat) (v : Byte) : (s.storeByte a v).progChk = s.progChk := rfl
@[simp] theorem State.storeByte_sampleCount (s : State) (a : Nat) (v : Byte) : (s.storeByte a v).sampleCount = s.sampleCount := rfl
@[simp] theorem State.storeByte_buf (s : State) (a : Nat) (v : Byte) : (s.storeByte a v).buf = s.buf.write a v := rfl
@[simp] theorem State.storeByte_hidden (s : State) (a : Nat) (v : Byte) : (s.storeByte a v).hidden = s.hidden := rfl
@[simp] theorem State.storeByte_sReady (s : State) (a : Nat) (v : Byte) : (s.storeByte a v).sReady = s.sReady := rfl
@[simp] theorem State.storeByte_sinkErr (s : State) (a : Nat) (v : Byte) : (s.storeByte a v).sinkErr = s.sinkErr := rfl
@[simp] theorem State.storeByte_busOut (s : State) (a : Nat) (v : Byte) : (s.storeByte a v).busOut = s.busOut := rfl
@[simp] theorem State.storeByte_sunk (s : State) (a : Nat) (v : Byte) : (s.storeByte a v).sunk = s.sunk := rfl
@[simp] theorem State.storeByte_env (s : State) (a : Nat) (v : Byte) : (s.storeByte a v).env = s.env := rfl
@[simp] theorem State.storeByte_resets (s : State) (a : Nat) (v : Byte) : (s.storeByte a v).resets = s.resets := rfl
@[simp] theorem State.storeByte_draws (s : State) (a : Nat) (v : Byte) : (s.storeByte a v).draws = s.draws := rfl

/-! ### storeWord -/

@[simp] theorem State.storeWord_cfg (s : State) (a : Nat) (v : Word) : (s.storeWord a v).cfg = s.cfg := rfl
@[simp] theorem State.storeWord_mode (s : State) (a : Nat) (v : Word) : (s.storeWord a v).mode = s.mode := rfl
@[simp] theorem State.storeWord_pending (s : State) (a : Nat) (v : Word) : (s.storeWord a v).pending = s.pending := rfl
@[simp] theorem State.storeWord_done (s : State) (a : Nat) (v : Word) : (s.storeWord a v).done = s.done := rfl
@[simp] theorem State.storeWord_err (s : State) (a : Nat) (v : Word) : (s.storeWord a v).err = s.err := rfl
@[simp] theorem State.storeWord_wwb (s : State) (a : Nat) (v : Word) : (s.storeWord a v).wwb = s.wwb := rfl
@[simp] theorem State.storeWord_errCode (s : State) (a : Nat) (v : Word) : (s.storeWord a v).errCode = s.errCode := rfl
@[simp] theorem State.storeWord_length (s : State) (a : Nat) (v : Word) : (s.storeWord a v).length = s.length := rfl
@[simp] theorem State.storeWord_loadRun (s : State) (a : Nat) (v : Word) : (s.storeWord a v).loadRun = s.loadRun := rfl
@[simp] theorem State.storeWord_irqEn (s : State) (a : Nat) (v : Word) : (s.storeWord a v).irqEn = s.irqEn := rfl
@[simp] theorem State.storeWord_metaChk (s : State) (a : Nat) (v : Word) : (s.storeWord a v).metaChk = s.metaChk := rfl
@[simp] theorem State.storeWord_progChk (s : State) (a : Nat) (v : Word) : (s.storeWord a v).progChk = s.progChk := rfl
@[simp] theorem State.storeWord_sampleCount (s : State) (a : Nat) (v : Word) : (s.storeWord a v).sampleCount = s.sampleCount := rfl
@[simp] theorem State.storeWord_hidden (s : State) (a : Nat) (v : Word) : (s.storeWord a v).hidden = s.hidden := rfl
@[simp] theorem State.storeWord_sReady (s : State) (a : Nat) (v : Word) : (s.storeWord a v).sReady = s.sReady := rfl
@[simp] theorem State.storeWord_sinkErr (s : State) (a : Nat) (v : Word) : (s.storeWord a v).sinkErr = s.sinkErr := rfl
@[simp] theorem State.storeWord_busOut (s : State) (a : Nat) (v : Word) : (s.storeWord a v).busOut = s.busOut := rfl
@[simp] theorem State.storeWord_sunk (s : State) (a : Nat) (v : Word) : (s.storeWord a v).sunk = s.sunk := rfl
@[simp] theorem State.storeWord_env (s : State) (a : Nat) (v : Word) : (s.storeWord a v).env = s.env := rfl
@[simp] theorem State.storeWord_resets (s : State) (a : Nat) (v : Word) : (s.storeWord a v).resets = s.resets := rfl
@[simp] theorem State.storeWord_draws (s : State) (a : Nat) (v : Word) : (s.storeWord a v).draws = s.draws := rfl

/-! ### writeStatus -/

@[simp] theorem State.writeStatus_cfg (s : State) (v : Word) : (s.writeStatus v).cfg = s.cfg := rfl
@[simp] theorem State.writeStatus_mode (s : State) (v : Word) : (s.writeStatus v).mode = s.mode := rfl
@[simp] theorem State.writeStatus_pending (s : State) (v : Word) : (s.writeStatus v).pending = s.pending := rfl
@[simp] theorem State.writeStatus_done (s : State) (v : Word) : (s.writeStatus v).done = clearedByOne s.done (v.getLsbD 1) := rfl
@[simp] theorem State.writeStatus_err (s : State) (v : Word) : (s.writeStatus v).err = clearedByOne s.err (v.getLsbD 2) := rfl
@[simp] theorem State.writeStatus_wwb (s : State) (v : Word) : (s.writeStatus v).wwb = clearedByOne s.wwb (v.getLsbD 3) := rfl
@[simp] theorem State.writeStatus_errCode (s : State) (v : Word) : (s.writeStatus v).errCode = s.errCode := rfl
@[simp] theorem State.writeStatus_length (s : State) (v : Word) : (s.writeStatus v).length = s.length := rfl
@[simp] theorem State.writeStatus_loadRun (s : State) (v : Word) : (s.writeStatus v).loadRun = s.loadRun := rfl
@[simp] theorem State.writeStatus_irqEn (s : State) (v : Word) : (s.writeStatus v).irqEn = s.irqEn := rfl
@[simp] theorem State.writeStatus_metaChk (s : State) (v : Word) : (s.writeStatus v).metaChk = s.metaChk := rfl
@[simp] theorem State.writeStatus_progChk (s : State) (v : Word) : (s.writeStatus v).progChk = s.progChk := rfl
@[simp] theorem State.writeStatus_sampleCount (s : State) (v : Word) : (s.writeStatus v).sampleCount = s.sampleCount := rfl
@[simp] theorem State.writeStatus_buf (s : State) (v : Word) : (s.writeStatus v).buf = s.buf := rfl
@[simp] theorem State.writeStatus_hidden (s : State) (v : Word) : (s.writeStatus v).hidden = s.hidden := rfl
@[simp] theorem State.writeStatus_sReady (s : State) (v : Word) : (s.writeStatus v).sReady = s.sReady := rfl
@[simp] theorem State.writeStatus_sinkErr (s : State) (v : Word) : (s.writeStatus v).sinkErr = s.sinkErr := rfl
@[simp] theorem State.writeStatus_busOut (s : State) (v : Word) : (s.writeStatus v).busOut = s.busOut := rfl
@[simp] theorem State.writeStatus_sunk (s : State) (v : Word) : (s.writeStatus v).sunk = s.sunk := rfl
@[simp] theorem State.writeStatus_env (s : State) (v : Word) : (s.writeStatus v).env = s.env := rfl
@[simp] theorem State.writeStatus_resets (s : State) (v : Word) : (s.writeStatus v).resets = s.resets := rfl
@[simp] theorem State.writeStatus_draws (s : State) (v : Word) : (s.writeStatus v).draws = s.draws := rfl

/-! ### dropWrite -/

@[simp] theorem State.dropWrite_cfg (s : State) : s.dropWrite.cfg = s.cfg := rfl
@[simp] theorem State.dropWrite_mode (s : State) : s.dropWrite.mode = s.mode := rfl
@[simp] theorem State.dropWrite_pending (s : State) : s.dropWrite.pending = s.pending := rfl
@[simp] theorem State.dropWrite_done (s : State) : s.dropWrite.done = s.done := rfl
@[simp] theorem State.dropWrite_err (s : State) : s.dropWrite.err = s.err := rfl
@[simp] theorem State.dropWrite_wwb (s : State) : s.dropWrite.wwb = true := rfl
@[simp] theorem State.dropWrite_errCode (s : State) : s.dropWrite.errCode = s.errCode := rfl
@[simp] theorem State.dropWrite_length (s : State) : s.dropWrite.length = s.length := rfl
@[simp] theorem State.dropWrite_loadRun (s : State) : s.dropWrite.loadRun = s.loadRun := rfl
@[simp] theorem State.dropWrite_irqEn (s : State) : s.dropWrite.irqEn = s.irqEn := rfl
@[simp] theorem State.dropWrite_metaChk (s : State) : s.dropWrite.metaChk = s.metaChk := rfl
@[simp] theorem State.dropWrite_progChk (s : State) : s.dropWrite.progChk = s.progChk := rfl
@[simp] theorem State.dropWrite_sampleCount (s : State) : s.dropWrite.sampleCount = s.sampleCount := rfl
@[simp] theorem State.dropWrite_buf (s : State) : s.dropWrite.buf = s.buf := rfl
@[simp] theorem State.dropWrite_hidden (s : State) : s.dropWrite.hidden = s.hidden := rfl
@[simp] theorem State.dropWrite_sReady (s : State) : s.dropWrite.sReady = s.sReady := rfl
@[simp] theorem State.dropWrite_sinkErr (s : State) : s.dropWrite.sinkErr = s.sinkErr := rfl
@[simp] theorem State.dropWrite_busOut (s : State) : s.dropWrite.busOut = s.busOut := rfl
@[simp] theorem State.dropWrite_sunk (s : State) : s.dropWrite.sunk = s.sunk := rfl
@[simp] theorem State.dropWrite_env (s : State) : s.dropWrite.env = s.env := rfl
@[simp] theorem State.dropWrite_resets (s : State) : s.dropWrite.resets = s.resets := rfl
@[simp] theorem State.dropWrite_draws (s : State) : s.dropWrite.draws = s.draws := rfl

/-! ### clearForAccept -/

@[simp] theorem State.clearForAccept_cfg (s : State) : s.clearForAccept.cfg = s.cfg := rfl
@[simp] theorem State.clearForAccept_mode (s : State) : s.clearForAccept.mode = s.mode := rfl
@[simp] theorem State.clearForAccept_pending (s : State) : s.clearForAccept.pending = s.pending := rfl
@[simp] theorem State.clearForAccept_done (s : State) : s.clearForAccept.done = false := rfl
@[simp] theorem State.clearForAccept_err (s : State) : s.clearForAccept.err = false := rfl
@[simp] theorem State.clearForAccept_wwb (s : State) : s.clearForAccept.wwb = s.wwb := rfl
@[simp] theorem State.clearForAccept_errCode (s : State) : s.clearForAccept.errCode = 0#4 := rfl
@[simp] theorem State.clearForAccept_length (s : State) : s.clearForAccept.length = s.length := rfl
@[simp] theorem State.clearForAccept_loadRun (s : State) : s.clearForAccept.loadRun = s.loadRun := rfl
@[simp] theorem State.clearForAccept_irqEn (s : State) : s.clearForAccept.irqEn = s.irqEn := rfl
@[simp] theorem State.clearForAccept_metaChk (s : State) : s.clearForAccept.metaChk = s.metaChk := rfl
@[simp] theorem State.clearForAccept_progChk (s : State) : s.clearForAccept.progChk = s.progChk := rfl
@[simp] theorem State.clearForAccept_sampleCount (s : State) : s.clearForAccept.sampleCount = 0#32 := rfl
@[simp] theorem State.clearForAccept_buf (s : State) : s.clearForAccept.buf = s.buf := rfl
@[simp] theorem State.clearForAccept_hidden (s : State) : s.clearForAccept.hidden = s.hidden := rfl
@[simp] theorem State.clearForAccept_sReady (s : State) : s.clearForAccept.sReady = s.sReady := rfl
@[simp] theorem State.clearForAccept_sinkErr (s : State) : s.clearForAccept.sinkErr = s.sinkErr := rfl
@[simp] theorem State.clearForAccept_busOut (s : State) : s.clearForAccept.busOut = s.busOut := rfl
@[simp] theorem State.clearForAccept_sunk (s : State) : s.clearForAccept.sunk = s.sunk := rfl
@[simp] theorem State.clearForAccept_env (s : State) : s.clearForAccept.env = s.env := rfl
@[simp] theorem State.clearForAccept_resets (s : State) : s.clearForAccept.resets = s.resets := rfl
@[simp] theorem State.clearForAccept_draws (s : State) : s.clearForAccept.draws = s.draws := rfl

/-! ### finish -/

@[simp] theorem State.finish_cfg (s : State) : s.finish.cfg = s.cfg := rfl
@[simp] theorem State.finish_mode (s : State) : s.finish.mode = .idle := rfl
@[simp] theorem State.finish_pending (s : State) : s.finish.pending = s.pending := rfl
@[simp] theorem State.finish_done (s : State) : s.finish.done = true := rfl
@[simp] theorem State.finish_err (s : State) : s.finish.err = s.err := rfl
@[simp] theorem State.finish_wwb (s : State) : s.finish.wwb = s.wwb := rfl
@[simp] theorem State.finish_errCode (s : State) : s.finish.errCode = s.errCode := rfl
@[simp] theorem State.finish_length (s : State) : s.finish.length = s.length := rfl
@[simp] theorem State.finish_loadRun (s : State) : s.finish.loadRun = s.loadRun := rfl
@[simp] theorem State.finish_irqEn (s : State) : s.finish.irqEn = s.irqEn := rfl
@[simp] theorem State.finish_metaChk (s : State) : s.finish.metaChk = s.metaChk := rfl
@[simp] theorem State.finish_progChk (s : State) : s.finish.progChk = s.progChk := rfl
@[simp] theorem State.finish_sampleCount (s : State) : s.finish.sampleCount = s.sampleCount := rfl
@[simp] theorem State.finish_buf (s : State) : s.finish.buf = s.buf := rfl
@[simp] theorem State.finish_hidden (s : State) : s.finish.hidden = s.hidden := rfl
@[simp] theorem State.finish_sReady (s : State) : s.finish.sReady = s.sReady := rfl
@[simp] theorem State.finish_sinkErr (s : State) : s.finish.sinkErr = s.sinkErr := rfl
@[simp] theorem State.finish_busOut (s : State) : s.finish.busOut = s.busOut := rfl
@[simp] theorem State.finish_sunk (s : State) : s.finish.sunk = s.sunk := rfl
@[simp] theorem State.finish_env (s : State) : s.finish.env = s.env := rfl
@[simp] theorem State.finish_resets (s : State) : s.finish.resets = s.resets := rfl
@[simp] theorem State.finish_draws (s : State) : s.finish.draws = s.draws := rfl

/-! ### raiseError -/

@[simp] theorem State.raiseError_cfg (s : State) (e : CmdError) : (s.raiseError e).cfg = s.cfg := rfl
@[simp] theorem State.raiseError_mode (s : State) (e : CmdError) : (s.raiseError e).mode = .idle := rfl
@[simp] theorem State.raiseError_pending (s : State) (e : CmdError) : (s.raiseError e).pending = [] := rfl
@[simp] theorem State.raiseError_done (s : State) (e : CmdError) : (s.raiseError e).done = s.done := rfl
@[simp] theorem State.raiseError_err (s : State) (e : CmdError) : (s.raiseError e).err = true := rfl
@[simp] theorem State.raiseError_wwb (s : State) (e : CmdError) : (s.raiseError e).wwb = s.wwb := rfl
@[simp] theorem State.raiseError_errCode (s : State) (e : CmdError) : (s.raiseError e).errCode = errorCode e := rfl
@[simp] theorem State.raiseError_length (s : State) (e : CmdError) : (s.raiseError e).length = s.length := rfl
@[simp] theorem State.raiseError_loadRun (s : State) (e : CmdError) : (s.raiseError e).loadRun = s.loadRun := rfl
@[simp] theorem State.raiseError_irqEn (s : State) (e : CmdError) : (s.raiseError e).irqEn = s.irqEn := rfl
@[simp] theorem State.raiseError_metaChk (s : State) (e : CmdError) : (s.raiseError e).metaChk = s.metaChk := rfl
@[simp] theorem State.raiseError_progChk (s : State) (e : CmdError) : (s.raiseError e).progChk = s.progChk := rfl
@[simp] theorem State.raiseError_sampleCount (s : State) (e : CmdError) : (s.raiseError e).sampleCount = s.sampleCount := rfl
@[simp] theorem State.raiseError_buf (s : State) (e : CmdError) : (s.raiseError e).buf = s.buf := rfl
@[simp] theorem State.raiseError_hidden (s : State) (e : CmdError) : (s.raiseError e).hidden = s.hidden := rfl
@[simp] theorem State.raiseError_sReady (s : State) (e : CmdError) : (s.raiseError e).sReady = s.sReady := rfl
@[simp] theorem State.raiseError_sinkErr (s : State) (e : CmdError) : (s.raiseError e).sinkErr = s.sinkErr := rfl
@[simp] theorem State.raiseError_busOut (s : State) (e : CmdError) : (s.raiseError e).busOut = s.busOut := rfl
@[simp] theorem State.raiseError_sunk (s : State) (e : CmdError) : (s.raiseError e).sunk = s.sunk := rfl
@[simp] theorem State.raiseError_env (s : State) (e : CmdError) : (s.raiseError e).env = s.env := rfl
@[simp] theorem State.raiseError_resets (s : State) (e : CmdError) : (s.raiseError e).resets = s.resets := rfl
@[simp] theorem State.raiseError_draws (s : State) (e : CmdError) : (s.raiseError e).draws = s.draws := rfl

/-! ### beginStream -/

@[simp] theorem State.beginStream_cfg (s : State) (i : Instr) (l : List Event) : (s.beginStream i l).cfg = s.cfg := rfl
@[simp] theorem State.beginStream_mode (s : State) (i : Instr) (l : List Event) : (s.beginStream i l).mode = .busy := rfl
@[simp] theorem State.beginStream_pending (s : State) (i : Instr) (l : List Event) : (s.beginStream i l).pending = l := rfl
@[simp] theorem State.beginStream_done (s : State) (i : Instr) (l : List Event) : (s.beginStream i l).done = s.done := rfl
@[simp] theorem State.beginStream_err (s : State) (i : Instr) (l : List Event) : (s.beginStream i l).err = s.err := rfl
@[simp] theorem State.beginStream_wwb (s : State) (i : Instr) (l : List Event) : (s.beginStream i l).wwb = s.wwb := rfl
@[simp] theorem State.beginStream_errCode (s : State) (i : Instr) (l : List Event) : (s.beginStream i l).errCode = s.errCode := rfl
@[simp] theorem State.beginStream_length (s : State) (i : Instr) (l : List Event) : (s.beginStream i l).length = s.length := rfl
@[simp] theorem State.beginStream_loadRun (s : State) (i : Instr) (l : List Event) : (s.beginStream i l).loadRun = s.loadRun := rfl
@[simp] theorem State.beginStream_irqEn (s : State) (i : Instr) (l : List Event) : (s.beginStream i l).irqEn = s.irqEn := rfl
@[simp] theorem State.beginStream_metaChk (s : State) (i : Instr) (l : List Event) : (s.beginStream i l).metaChk = s.metaChk := rfl
@[simp] theorem State.beginStream_progChk (s : State) (i : Instr) (l : List Event) : (s.beginStream i l).progChk = s.progChk := rfl
@[simp] theorem State.beginStream_sampleCount (s : State) (i : Instr) (l : List Event) : (s.beginStream i l).sampleCount = s.sampleCount := rfl
@[simp] theorem State.beginStream_buf (s : State) (i : Instr) (l : List Event) : (s.beginStream i l).buf = s.buf := rfl
@[simp] theorem State.beginStream_hidden (s : State) (i : Instr) (l : List Event) : (s.beginStream i l).hidden = startHidden s i := rfl
@[simp] theorem State.beginStream_sReady (s : State) (i : Instr) (l : List Event) : (s.beginStream i l).sReady = s.sReady := rfl
@[simp] theorem State.beginStream_sinkErr (s : State) (i : Instr) (l : List Event) : (s.beginStream i l).sinkErr = s.sinkErr := rfl
@[simp] theorem State.beginStream_busOut (s : State) (i : Instr) (l : List Event) : (s.beginStream i l).busOut = s.busOut := rfl
@[simp] theorem State.beginStream_sunk (s : State) (i : Instr) (l : List Event) : (s.beginStream i l).sunk = s.sunk := rfl
@[simp] theorem State.beginStream_env (s : State) (i : Instr) (l : List Event) : (s.beginStream i l).env = s.env := rfl
@[simp] theorem State.beginStream_resets (s : State) (i : Instr) (l : List Event) : (s.beginStream i l).resets = s.resets := rfl
@[simp] theorem State.beginStream_draws (s : State) (i : Instr) (l : List Event) : (s.beginStream i l).draws = s.draws := rfl

/-! ### handOver -/

@[simp] theorem State.handOver_cfg (s : State) (v : Int) : (s.handOver v).cfg = s.cfg := rfl
@[simp] theorem State.handOver_mode (s : State) (v : Int) : (s.handOver v).mode = s.mode := rfl
@[simp] theorem State.handOver_pending (s : State) (v : Int) : (s.handOver v).pending = s.pending := rfl
@[simp] theorem State.handOver_done (s : State) (v : Int) : (s.handOver v).done = s.done := rfl
@[simp] theorem State.handOver_err (s : State) (v : Int) : (s.handOver v).err = s.err := rfl
@[simp] theorem State.handOver_wwb (s : State) (v : Int) : (s.handOver v).wwb = s.wwb := rfl
@[simp] theorem State.handOver_errCode (s : State) (v : Int) : (s.handOver v).errCode = s.errCode := rfl
@[simp] theorem State.handOver_length (s : State) (v : Int) : (s.handOver v).length = s.length := rfl
@[simp] theorem State.handOver_loadRun (s : State) (v : Int) : (s.handOver v).loadRun = s.loadRun := rfl
@[simp] theorem State.handOver_irqEn (s : State) (v : Int) : (s.handOver v).irqEn = s.irqEn := rfl
@[simp] theorem State.handOver_metaChk (s : State) (v : Int) : (s.handOver v).metaChk = s.metaChk := rfl
@[simp] theorem State.handOver_progChk (s : State) (v : Int) : (s.handOver v).progChk = s.progChk := rfl
@[simp] theorem State.handOver_sampleCount (s : State) (v : Int) : (s.handOver v).sampleCount = s.sampleCount + 1#32 := rfl
@[simp] theorem State.handOver_buf (s : State) (v : Int) : (s.handOver v).buf = s.buf := rfl
@[simp] theorem State.handOver_hidden (s : State) (v : Int) : (s.handOver v).hidden = s.hidden := rfl
@[simp] theorem State.handOver_sReady (s : State) (v : Int) : (s.handOver v).sReady = s.sReady := rfl
@[simp] theorem State.handOver_sinkErr (s : State) (v : Int) : (s.handOver v).sinkErr = s.sinkErr := rfl
@[simp] theorem State.handOver_busOut (s : State) (v : Int) : (s.handOver v).busOut = s.busOut := rfl
@[simp] theorem State.handOver_sunk (s : State) (v : Int) : (s.handOver v).sunk = samplePattern v :: s.sunk := rfl
@[simp] theorem State.handOver_env (s : State) (v : Int) : (s.handOver v).env = s.env := rfl
@[simp] theorem State.handOver_resets (s : State) (v : Int) : (s.handOver v).resets = s.resets := rfl
@[simp] theorem State.handOver_draws (s : State) (v : Int) : (s.handOver v).draws = s.draws := rfl

/-! ### popEvent -/

@[simp] theorem State.popEvent_cfg (s : State) (rest : List Event) : (s.popEvent rest).cfg = s.cfg := rfl
@[simp] theorem State.popEvent_mode (s : State) (rest : List Event) : (s.popEvent rest).mode = s.mode := rfl
@[simp] theorem State.popEvent_pending (s : State) (rest : List Event) : (s.popEvent rest).pending = rest := rfl
@[simp] theorem State.popEvent_done (s : State) (rest : List Event) : (s.popEvent rest).done = s.done := rfl
@[simp] theorem State.popEvent_err (s : State) (rest : List Event) : (s.popEvent rest).err = s.err := rfl
@[simp] theorem State.popEvent_wwb (s : State) (rest : List Event) : (s.popEvent rest).wwb = s.wwb := rfl
@[simp] theorem State.popEvent_errCode (s : State) (rest : List Event) : (s.popEvent rest).errCode = s.errCode := rfl
@[simp] theorem State.popEvent_length (s : State) (rest : List Event) : (s.popEvent rest).length = s.length := rfl
@[simp] theorem State.popEvent_loadRun (s : State) (rest : List Event) : (s.popEvent rest).loadRun = s.loadRun := rfl
@[simp] theorem State.popEvent_irqEn (s : State) (rest : List Event) : (s.popEvent rest).irqEn = s.irqEn := rfl
@[simp] theorem State.popEvent_metaChk (s : State) (rest : List Event) : (s.popEvent rest).metaChk = s.metaChk := rfl
@[simp] theorem State.popEvent_progChk (s : State) (rest : List Event) : (s.popEvent rest).progChk = s.progChk := rfl
@[simp] theorem State.popEvent_sampleCount (s : State) (rest : List Event) : (s.popEvent rest).sampleCount = s.sampleCount := rfl
@[simp] theorem State.popEvent_buf (s : State) (rest : List Event) : (s.popEvent rest).buf = s.buf := rfl
@[simp] theorem State.popEvent_hidden (s : State) (rest : List Event) : (s.popEvent rest).hidden = advanceHidden s s.hidden := rfl
@[simp] theorem State.popEvent_sReady (s : State) (rest : List Event) : (s.popEvent rest).sReady = s.sReady := rfl
@[simp] theorem State.popEvent_sinkErr (s : State) (rest : List Event) : (s.popEvent rest).sinkErr = s.sinkErr := rfl
@[simp] theorem State.popEvent_busOut (s : State) (rest : List Event) : (s.popEvent rest).busOut = s.busOut := rfl
@[simp] theorem State.popEvent_sunk (s : State) (rest : List Event) : (s.popEvent rest).sunk = s.sunk := rfl
@[simp] theorem State.popEvent_env (s : State) (rest : List Event) : (s.popEvent rest).env = s.env := rfl
@[simp] theorem State.popEvent_resets (s : State) (rest : List Event) : (s.popEvent rest).resets = s.resets := rfl
@[simp] theorem State.popEvent_draws (s : State) (rest : List Event) : (s.popEvent rest).draws = s.draws := rfl

/-! ### driveSink -/

@[simp] theorem State.driveSink_cfg (s : State) (ready err : Bool) : (s.driveSink ready err).cfg = s.cfg := rfl
@[simp] theorem State.driveSink_mode (s : State) (ready err : Bool) : (s.driveSink ready err).mode = s.mode := rfl
@[simp] theorem State.driveSink_pending (s : State) (ready err : Bool) : (s.driveSink ready err).pending = s.pending := rfl
@[simp] theorem State.driveSink_done (s : State) (ready err : Bool) : (s.driveSink ready err).done = s.done := rfl
@[simp] theorem State.driveSink_err (s : State) (ready err : Bool) : (s.driveSink ready err).err = s.err := rfl
@[simp] theorem State.driveSink_wwb (s : State) (ready err : Bool) : (s.driveSink ready err).wwb = s.wwb := rfl
@[simp] theorem State.driveSink_errCode (s : State) (ready err : Bool) : (s.driveSink ready err).errCode = s.errCode := rfl
@[simp] theorem State.driveSink_length (s : State) (ready err : Bool) : (s.driveSink ready err).length = s.length := rfl
@[simp] theorem State.driveSink_loadRun (s : State) (ready err : Bool) : (s.driveSink ready err).loadRun = s.loadRun := rfl
@[simp] theorem State.driveSink_irqEn (s : State) (ready err : Bool) : (s.driveSink ready err).irqEn = s.irqEn := rfl
@[simp] theorem State.driveSink_metaChk (s : State) (ready err : Bool) : (s.driveSink ready err).metaChk = s.metaChk := rfl
@[simp] theorem State.driveSink_progChk (s : State) (ready err : Bool) : (s.driveSink ready err).progChk = s.progChk := rfl
@[simp] theorem State.driveSink_sampleCount (s : State) (ready err : Bool) : (s.driveSink ready err).sampleCount = s.sampleCount := rfl
@[simp] theorem State.driveSink_buf (s : State) (ready err : Bool) : (s.driveSink ready err).buf = s.buf := rfl
@[simp] theorem State.driveSink_hidden (s : State) (ready err : Bool) : (s.driveSink ready err).hidden = s.hidden := rfl
@[simp] theorem State.driveSink_sReady (s : State) (ready err : Bool) : (s.driveSink ready err).sReady = ready := rfl
@[simp] theorem State.driveSink_sinkErr (s : State) (ready err : Bool) : (s.driveSink ready err).sinkErr = err := rfl
@[simp] theorem State.driveSink_busOut (s : State) (ready err : Bool) : (s.driveSink ready err).busOut = s.busOut := rfl
@[simp] theorem State.driveSink_sunk (s : State) (ready err : Bool) : (s.driveSink ready err).sunk = s.sunk := rfl
@[simp] theorem State.driveSink_env (s : State) (ready err : Bool) : (s.driveSink ready err).env = s.env := rfl
@[simp] theorem State.driveSink_resets (s : State) (ready err : Bool) : (s.driveSink ready err).resets = s.resets := rfl
@[simp] theorem State.driveSink_draws (s : State) (ready err : Bool) : (s.driveSink ready err).draws = s.draws := rfl

/-! ### takeReset -/

@[simp] theorem State.takeReset_cfg (s : State) : s.takeReset.cfg = s.cfg := rfl
@[simp] theorem State.takeReset_mode (s : State) : s.takeReset.mode = .idle := rfl
@[simp] theorem State.takeReset_pending (s : State) : s.takeReset.pending = [] := rfl
@[simp] theorem State.takeReset_done (s : State) : s.takeReset.done = false := rfl
@[simp] theorem State.takeReset_err (s : State) : s.takeReset.err = false := rfl
@[simp] theorem State.takeReset_wwb (s : State) : s.takeReset.wwb = false := rfl
@[simp] theorem State.takeReset_errCode (s : State) : s.takeReset.errCode = 0#4 := rfl
@[simp] theorem State.takeReset_length (s : State) : s.takeReset.length = 0#17 := rfl
@[simp] theorem State.takeReset_loadRun (s : State) : s.takeReset.loadRun = false := rfl
@[simp] theorem State.takeReset_irqEn (s : State) : s.takeReset.irqEn = false := rfl
@[simp] theorem State.takeReset_metaChk (s : State) : s.takeReset.metaChk = 0x00#8 := rfl
@[simp] theorem State.takeReset_progChk (s : State) : s.takeReset.progChk = 0x00#8 := rfl
@[simp] theorem State.takeReset_sampleCount (s : State) : s.takeReset.sampleCount = 0#32 := rfl
@[simp] theorem State.takeReset_buf (s : State) : s.takeReset.buf = [] := rfl
@[simp] theorem State.takeReset_hidden (s : State) : s.takeReset.hidden = s.hidden := rfl
@[simp] theorem State.takeReset_sReady (s : State) : s.takeReset.sReady = s.sReady := rfl
@[simp] theorem State.takeReset_sinkErr (s : State) : s.takeReset.sinkErr = s.sinkErr := rfl
@[simp] theorem State.takeReset_busOut (s : State) : s.takeReset.busOut = s.busOut := rfl
@[simp] theorem State.takeReset_sunk (s : State) : s.takeReset.sunk = s.sunk := rfl
@[simp] theorem State.takeReset_env (s : State) : s.takeReset.env = s.env := rfl
@[simp] theorem State.takeReset_resets (s : State) : s.takeReset.resets = s.resets + 1 := rfl
@[simp] theorem State.takeReset_draws (s : State) : s.takeReset.draws = s.draws := rfl

/-! ### beginStep -/

@[simp] theorem State.beginStep_cfg (s : State) (rest : List EnvEvent) : (s.beginStep rest).cfg = s.cfg := rfl
@[simp] theorem State.beginStep_mode (s : State) (rest : List EnvEvent) : (s.beginStep rest).mode = s.mode := rfl
@[simp] theorem State.beginStep_pending (s : State) (rest : List EnvEvent) : (s.beginStep rest).pending = s.pending := rfl
@[simp] theorem State.beginStep_done (s : State) (rest : List EnvEvent) : (s.beginStep rest).done = s.done := rfl
@[simp] theorem State.beginStep_err (s : State) (rest : List EnvEvent) : (s.beginStep rest).err = s.err := rfl
@[simp] theorem State.beginStep_wwb (s : State) (rest : List EnvEvent) : (s.beginStep rest).wwb = s.wwb := rfl
@[simp] theorem State.beginStep_errCode (s : State) (rest : List EnvEvent) : (s.beginStep rest).errCode = s.errCode := rfl
@[simp] theorem State.beginStep_length (s : State) (rest : List EnvEvent) : (s.beginStep rest).length = s.length := rfl
@[simp] theorem State.beginStep_loadRun (s : State) (rest : List EnvEvent) : (s.beginStep rest).loadRun = s.loadRun := rfl
@[simp] theorem State.beginStep_irqEn (s : State) (rest : List EnvEvent) : (s.beginStep rest).irqEn = s.irqEn := rfl
@[simp] theorem State.beginStep_metaChk (s : State) (rest : List EnvEvent) : (s.beginStep rest).metaChk = s.metaChk := rfl
@[simp] theorem State.beginStep_progChk (s : State) (rest : List EnvEvent) : (s.beginStep rest).progChk = s.progChk := rfl
@[simp] theorem State.beginStep_sampleCount (s : State) (rest : List EnvEvent) : (s.beginStep rest).sampleCount = s.sampleCount := rfl
@[simp] theorem State.beginStep_buf (s : State) (rest : List EnvEvent) : (s.beginStep rest).buf = s.buf := rfl
@[simp] theorem State.beginStep_hidden (s : State) (rest : List EnvEvent) : (s.beginStep rest).hidden = s.hidden := rfl
@[simp] theorem State.beginStep_sReady (s : State) (rest : List EnvEvent) : (s.beginStep rest).sReady = s.sReady := rfl
@[simp] theorem State.beginStep_sinkErr (s : State) (rest : List EnvEvent) : (s.beginStep rest).sinkErr = s.sinkErr := rfl
@[simp] theorem State.beginStep_busOut (s : State) (rest : List EnvEvent) : (s.beginStep rest).busOut = none := rfl
@[simp] theorem State.beginStep_sunk (s : State) (rest : List EnvEvent) : (s.beginStep rest).sunk = s.sunk := rfl
@[simp] theorem State.beginStep_env (s : State) (rest : List EnvEvent) : (s.beginStep rest).env = rest := rfl
@[simp] theorem State.beginStep_resets (s : State) (rest : List EnvEvent) : (s.beginStep rest).resets = s.resets := rfl
@[simp] theorem State.beginStep_draws (s : State) (rest : List EnvEvent) : (s.beginStep rest).draws = s.draws + 1 := rfl

/-! ### respond -/

@[simp] theorem State.respond_cfg (s : State) (resp : Resp) (rdata : Option Word) : (s.respond resp rdata).cfg = s.cfg := rfl
@[simp] theorem State.respond_mode (s : State) (resp : Resp) (rdata : Option Word) : (s.respond resp rdata).mode = s.mode := rfl
@[simp] theorem State.respond_pending (s : State) (resp : Resp) (rdata : Option Word) : (s.respond resp rdata).pending = s.pending := rfl
@[simp] theorem State.respond_done (s : State) (resp : Resp) (rdata : Option Word) : (s.respond resp rdata).done = s.done := rfl
@[simp] theorem State.respond_err (s : State) (resp : Resp) (rdata : Option Word) : (s.respond resp rdata).err = s.err := rfl
@[simp] theorem State.respond_wwb (s : State) (resp : Resp) (rdata : Option Word) : (s.respond resp rdata).wwb = s.wwb := rfl
@[simp] theorem State.respond_errCode (s : State) (resp : Resp) (rdata : Option Word) : (s.respond resp rdata).errCode = s.errCode := rfl
@[simp] theorem State.respond_length (s : State) (resp : Resp) (rdata : Option Word) : (s.respond resp rdata).length = s.length := rfl
@[simp] theorem State.respond_loadRun (s : State) (resp : Resp) (rdata : Option Word) : (s.respond resp rdata).loadRun = s.loadRun := rfl
@[simp] theorem State.respond_irqEn (s : State) (resp : Resp) (rdata : Option Word) : (s.respond resp rdata).irqEn = s.irqEn := rfl
@[simp] theorem State.respond_metaChk (s : State) (resp : Resp) (rdata : Option Word) : (s.respond resp rdata).metaChk = s.metaChk := rfl
@[simp] theorem State.respond_progChk (s : State) (resp : Resp) (rdata : Option Word) : (s.respond resp rdata).progChk = s.progChk := rfl
@[simp] theorem State.respond_sampleCount (s : State) (resp : Resp) (rdata : Option Word) : (s.respond resp rdata).sampleCount = s.sampleCount := rfl
@[simp] theorem State.respond_buf (s : State) (resp : Resp) (rdata : Option Word) : (s.respond resp rdata).buf = s.buf := rfl
@[simp] theorem State.respond_hidden (s : State) (resp : Resp) (rdata : Option Word) : (s.respond resp rdata).hidden = s.hidden := rfl
@[simp] theorem State.respond_sReady (s : State) (resp : Resp) (rdata : Option Word) : (s.respond resp rdata).sReady = s.sReady := rfl
@[simp] theorem State.respond_sinkErr (s : State) (resp : Resp) (rdata : Option Word) : (s.respond resp rdata).sinkErr = s.sinkErr := rfl
@[simp] theorem State.respond_busOut (s : State) (resp : Resp) (rdata : Option Word) : (s.respond resp rdata).busOut = some ⟨resp, rdata⟩ := rfl
@[simp] theorem State.respond_sunk (s : State) (resp : Resp) (rdata : Option Word) : (s.respond resp rdata).sunk = s.sunk := rfl
@[simp] theorem State.respond_env (s : State) (resp : Resp) (rdata : Option Word) : (s.respond resp rdata).env = s.env := rfl
@[simp] theorem State.respond_resets (s : State) (resp : Resp) (rdata : Option Word) : (s.respond resp rdata).resets = s.resets := rfl
@[simp] theorem State.respond_draws (s : State) (resp : Resp) (rdata : Option Word) : (s.respond resp rdata).draws = s.draws := rfl

/-! ### setLength -/

@[simp] theorem State.setLength_cfg (s : State) (v : Word) : (s.setLength v).cfg = s.cfg := rfl
@[simp] theorem State.setLength_mode (s : State) (v : Word) : (s.setLength v).mode = s.mode := rfl
@[simp] theorem State.setLength_pending (s : State) (v : Word) : (s.setLength v).pending = s.pending := rfl
@[simp] theorem State.setLength_done (s : State) (v : Word) : (s.setLength v).done = s.done := rfl
@[simp] theorem State.setLength_err (s : State) (v : Word) : (s.setLength v).err = s.err := rfl
@[simp] theorem State.setLength_wwb (s : State) (v : Word) : (s.setLength v).wwb = s.wwb := rfl
@[simp] theorem State.setLength_errCode (s : State) (v : Word) : (s.setLength v).errCode = s.errCode := rfl
@[simp] theorem State.setLength_length (s : State) (v : Word) : (s.setLength v).length = v.extractLsb' 0 17 := rfl
@[simp] theorem State.setLength_loadRun (s : State) (v : Word) : (s.setLength v).loadRun = s.loadRun := rfl
@[simp] theorem State.setLength_irqEn (s : State) (v : Word) : (s.setLength v).irqEn = s.irqEn := rfl
@[simp] theorem State.setLength_metaChk (s : State) (v : Word) : (s.setLength v).metaChk = s.metaChk := rfl
@[simp] theorem State.setLength_progChk (s : State) (v : Word) : (s.setLength v).progChk = s.progChk := rfl
@[simp] theorem State.setLength_sampleCount (s : State) (v : Word) : (s.setLength v).sampleCount = s.sampleCount := rfl
@[simp] theorem State.setLength_buf (s : State) (v : Word) : (s.setLength v).buf = s.buf := rfl
@[simp] theorem State.setLength_hidden (s : State) (v : Word) : (s.setLength v).hidden = s.hidden := rfl
@[simp] theorem State.setLength_sReady (s : State) (v : Word) : (s.setLength v).sReady = s.sReady := rfl
@[simp] theorem State.setLength_sinkErr (s : State) (v : Word) : (s.setLength v).sinkErr = s.sinkErr := rfl
@[simp] theorem State.setLength_busOut (s : State) (v : Word) : (s.setLength v).busOut = s.busOut := rfl
@[simp] theorem State.setLength_sunk (s : State) (v : Word) : (s.setLength v).sunk = s.sunk := rfl
@[simp] theorem State.setLength_env (s : State) (v : Word) : (s.setLength v).env = s.env := rfl
@[simp] theorem State.setLength_resets (s : State) (v : Word) : (s.setLength v).resets = s.resets := rfl
@[simp] theorem State.setLength_draws (s : State) (v : Word) : (s.setLength v).draws = s.draws := rfl

/-! ### setConfig -/

@[simp] theorem State.setConfig_cfg (s : State) (v : Word) : (s.setConfig v).cfg = s.cfg := rfl
@[simp] theorem State.setConfig_mode (s : State) (v : Word) : (s.setConfig v).mode = s.mode := rfl
@[simp] theorem State.setConfig_pending (s : State) (v : Word) : (s.setConfig v).pending = s.pending := rfl
@[simp] theorem State.setConfig_done (s : State) (v : Word) : (s.setConfig v).done = s.done := rfl
@[simp] theorem State.setConfig_err (s : State) (v : Word) : (s.setConfig v).err = s.err := rfl
@[simp] theorem State.setConfig_wwb (s : State) (v : Word) : (s.setConfig v).wwb = s.wwb := rfl
@[simp] theorem State.setConfig_errCode (s : State) (v : Word) : (s.setConfig v).errCode = s.errCode := rfl
@[simp] theorem State.setConfig_length (s : State) (v : Word) : (s.setConfig v).length = s.length := rfl
@[simp] theorem State.setConfig_loadRun (s : State) (v : Word) : (s.setConfig v).loadRun = v.getLsbD 0 := rfl
@[simp] theorem State.setConfig_irqEn (s : State) (v : Word) : (s.setConfig v).irqEn = v.getLsbD 1 := rfl
@[simp] theorem State.setConfig_metaChk (s : State) (v : Word) : (s.setConfig v).metaChk = s.metaChk := rfl
@[simp] theorem State.setConfig_progChk (s : State) (v : Word) : (s.setConfig v).progChk = s.progChk := rfl
@[simp] theorem State.setConfig_sampleCount (s : State) (v : Word) : (s.setConfig v).sampleCount = s.sampleCount := rfl
@[simp] theorem State.setConfig_buf (s : State) (v : Word) : (s.setConfig v).buf = s.buf := rfl
@[simp] theorem State.setConfig_hidden (s : State) (v : Word) : (s.setConfig v).hidden = s.hidden := rfl
@[simp] theorem State.setConfig_sReady (s : State) (v : Word) : (s.setConfig v).sReady = s.sReady := rfl
@[simp] theorem State.setConfig_sinkErr (s : State) (v : Word) : (s.setConfig v).sinkErr = s.sinkErr := rfl
@[simp] theorem State.setConfig_busOut (s : State) (v : Word) : (s.setConfig v).busOut = s.busOut := rfl
@[simp] theorem State.setConfig_sunk (s : State) (v : Word) : (s.setConfig v).sunk = s.sunk := rfl
@[simp] theorem State.setConfig_env (s : State) (v : Word) : (s.setConfig v).env = s.env := rfl
@[simp] theorem State.setConfig_resets (s : State) (v : Word) : (s.setConfig v).resets = s.resets := rfl
@[simp] theorem State.setConfig_draws (s : State) (v : Word) : (s.setConfig v).draws = s.draws := rfl

/-! ### applyChk -/

@[simp] theorem State.applyChk_cfg (s : State) (k : Seg) (v : Byte) : (s.applyChk k v).cfg = s.cfg := by cases k <;> rfl
@[simp] theorem State.applyChk_mode (s : State) (k : Seg) (v : Byte) : (s.applyChk k v).mode = s.mode := by cases k <;> rfl
@[simp] theorem State.applyChk_pending (s : State) (k : Seg) (v : Byte) : (s.applyChk k v).pending = s.pending := by cases k <;> rfl
@[simp] theorem State.applyChk_done (s : State) (k : Seg) (v : Byte) : (s.applyChk k v).done = s.done := by cases k <;> rfl
@[simp] theorem State.applyChk_err (s : State) (k : Seg) (v : Byte) : (s.applyChk k v).err = s.err := by cases k <;> rfl
@[simp] theorem State.applyChk_wwb (s : State) (k : Seg) (v : Byte) : (s.applyChk k v).wwb = s.wwb := by cases k <;> rfl
@[simp] theorem State.applyChk_errCode (s : State) (k : Seg) (v : Byte) : (s.applyChk k v).errCode = s.errCode := by cases k <;> rfl
@[simp] theorem State.applyChk_length (s : State) (k : Seg) (v : Byte) : (s.applyChk k v).length = s.length := by cases k <;> rfl
@[simp] theorem State.applyChk_loadRun (s : State) (k : Seg) (v : Byte) : (s.applyChk k v).loadRun = s.loadRun := by cases k <;> rfl
@[simp] theorem State.applyChk_irqEn (s : State) (k : Seg) (v : Byte) : (s.applyChk k v).irqEn = s.irqEn := by cases k <;> rfl
@[simp] theorem State.applyChk_metaSeg_metaChk (s : State) (v : Byte) : (s.applyChk .metaSeg v).metaChk = v := rfl
@[simp] theorem State.applyChk_progSeg_metaChk (s : State) (v : Byte) : (s.applyChk .progSeg v).metaChk = s.metaChk := rfl
@[simp] theorem State.applyChk_metaSeg_progChk (s : State) (v : Byte) : (s.applyChk .metaSeg v).progChk = s.progChk := rfl
@[simp] theorem State.applyChk_progSeg_progChk (s : State) (v : Byte) : (s.applyChk .progSeg v).progChk = v := rfl
@[simp] theorem State.applyChk_sampleCount (s : State) (k : Seg) (v : Byte) : (s.applyChk k v).sampleCount = s.sampleCount := by cases k <;> rfl
@[simp] theorem State.applyChk_buf (s : State) (k : Seg) (v : Byte) : (s.applyChk k v).buf = s.buf := by cases k <;> rfl
@[simp] theorem State.applyChk_hidden (s : State) (k : Seg) (v : Byte) : (s.applyChk k v).hidden = s.hidden := by cases k <;> rfl
@[simp] theorem State.applyChk_sReady (s : State) (k : Seg) (v : Byte) : (s.applyChk k v).sReady = s.sReady := by cases k <;> rfl
@[simp] theorem State.applyChk_sinkErr (s : State) (k : Seg) (v : Byte) : (s.applyChk k v).sinkErr = s.sinkErr := by cases k <;> rfl
@[simp] theorem State.applyChk_busOut (s : State) (k : Seg) (v : Byte) : (s.applyChk k v).busOut = s.busOut := by cases k <;> rfl
@[simp] theorem State.applyChk_sunk (s : State) (k : Seg) (v : Byte) : (s.applyChk k v).sunk = s.sunk := by cases k <;> rfl
@[simp] theorem State.applyChk_env (s : State) (k : Seg) (v : Byte) : (s.applyChk k v).env = s.env := by cases k <;> rfl
@[simp] theorem State.applyChk_resets (s : State) (k : Seg) (v : Byte) : (s.applyChk k v).resets = s.resets := by cases k <;> rfl
@[simp] theorem State.applyChk_draws (s : State) (k : Seg) (v : Byte) : (s.applyChk k v).draws = s.draws := by cases k <;> rfl

/-! ### retire -/

@[simp] theorem State.retire_cfg (s : State) (rest : List Event) : (s.retire rest).cfg = s.cfg := by cases rest <;> rfl
@[simp] theorem State.retire_mode (s : State) (rest : List Event) : (s.retire rest).mode = if rest = [] then .idle else s.mode := by cases rest <;> simp [State.retire]
@[simp] theorem State.retire_pending (s : State) (rest : List Event) : (s.retire rest).pending = rest := by cases rest <;> rfl
@[simp] theorem State.retire_done (s : State) (rest : List Event) : (s.retire rest).done = if rest = [] then true else s.done := by cases rest <;> simp [State.retire]
@[simp] theorem State.retire_err (s : State) (rest : List Event) : (s.retire rest).err = s.err := by cases rest <;> rfl
@[simp] theorem State.retire_wwb (s : State) (rest : List Event) : (s.retire rest).wwb = s.wwb := by cases rest <;> rfl
@[simp] theorem State.retire_errCode (s : State) (rest : List Event) : (s.retire rest).errCode = s.errCode := by cases rest <;> rfl
@[simp] theorem State.retire_length (s : State) (rest : List Event) : (s.retire rest).length = s.length := by cases rest <;> rfl
@[simp] theorem State.retire_loadRun (s : State) (rest : List Event) : (s.retire rest).loadRun = s.loadRun := by cases rest <;> rfl
@[simp] theorem State.retire_irqEn (s : State) (rest : List Event) : (s.retire rest).irqEn = s.irqEn := by cases rest <;> rfl
@[simp] theorem State.retire_metaChk (s : State) (rest : List Event) : (s.retire rest).metaChk = s.metaChk := by cases rest <;> rfl
@[simp] theorem State.retire_progChk (s : State) (rest : List Event) : (s.retire rest).progChk = s.progChk := by cases rest <;> rfl
@[simp] theorem State.retire_sampleCount (s : State) (rest : List Event) : (s.retire rest).sampleCount = s.sampleCount := by cases rest <;> rfl
@[simp] theorem State.retire_buf (s : State) (rest : List Event) : (s.retire rest).buf = s.buf := by cases rest <;> rfl
@[simp] theorem State.retire_hidden (s : State) (rest : List Event) : (s.retire rest).hidden = advanceHidden s s.hidden := by cases rest <;> rfl
@[simp] theorem State.retire_sReady (s : State) (rest : List Event) : (s.retire rest).sReady = s.sReady := by cases rest <;> rfl
@[simp] theorem State.retire_sinkErr (s : State) (rest : List Event) : (s.retire rest).sinkErr = s.sinkErr := by cases rest <;> rfl
@[simp] theorem State.retire_busOut (s : State) (rest : List Event) : (s.retire rest).busOut = s.busOut := by cases rest <;> rfl
@[simp] theorem State.retire_sunk (s : State) (rest : List Event) : (s.retire rest).sunk = s.sunk := by cases rest <;> rfl
@[simp] theorem State.retire_env (s : State) (rest : List Event) : (s.retire rest).env = s.env := by cases rest <;> rfl
@[simp] theorem State.retire_resets (s : State) (rest : List Event) : (s.retire rest).resets = s.resets := by cases rest <;> rfl
@[simp] theorem State.retire_draws (s : State) (rest : List Event) : (s.retire rest).draws = s.draws := by cases rest <;> rfl

end Sys2Proof.Machine
end

