-- ==== Sys2Proof/Laws/Memory.lean ====
section
/-! SUPPORT. The program buffer's laws: a read after a write, every other byte kept, and the canonical form kept. -/

namespace Sys2Proof.Machine

/-- The buffer's addresses are 0x10000 to 0x1FFFF (20_memory.md rule R51). -/
theorem isBufAddr_iff (a : Nat) : isBufAddr a = true ↔ 65536 ≤ a ∧ a < 131072 := by
  unfold isBufAddr Config.bufBase Config.bufBytes
  rw [decide_eq_true_eq]

/-- A write is read back at its own address and at no other. -/
@[simp] theorem written_write (m : Memory) (a b : Nat) (v : Byte) :
    (m.write a v).written b = if b = a then some v else m.written b := by
  induction m with
  | nil => rfl
  | cons c m ih =>
    obtain ⟨x, u⟩ := c
    by_cases h1 : a < x
    · simp only [Memory.write, if_pos h1, Memory.written]
    · by_cases h2 : a = x
      · subst h2
        have hw : Memory.write ((a, u) :: m) a v = (a, v) :: m := by simp [Memory.write]
        rw [hw]
        simp only [Memory.written]
        split_ifs <;> rfl
      · simp only [Memory.write, if_neg h1, if_neg h2, Memory.written, ih]
        by_cases h3 : b = x
        · simp [h3, Ne.symm h2]
        · simp [h3]

/-- A write above a bound keeps the rest of the canonical form above it. -/
theorem wfAbove_write {m : Memory} {lo a : Nat} (v : Byte) (hm : m.wfAbove lo = true) (hlo : lo < a)
    (ha : isBufAddr a = true) : (m.write a v).wfAbove lo = true := by
  induction m generalizing lo with
  | nil => simp [Memory.write, Memory.wfAbove, hlo, ha]
  | cons c m ih =>
    obtain ⟨x, u⟩ := c
    simp only [Memory.wfAbove, Bool.and_eq_true, decide_eq_true_eq] at hm
    simp only [Memory.write]
    split_ifs with h1 h2
    · simp [Memory.wfAbove, hlo, ha, h1, hm]
    · subst h2
      simp [Memory.wfAbove, hlo, ha, hm]
    · have hx : x < a := by omega
      simp [Memory.wfAbove, hm, ih hm.2 hx]

/-- Writing a byte of the buffer keeps the canonical form. -/
theorem wf_write {m : Memory} {a : Nat} (v : Byte) (hm : m.wf = true) (ha : isBufAddr a = true) :
    (m.write a v).wf = true := by
  have h : 0 < a := by
    have := (isBufAddr_iff a).mp ha
    omega
  exact wfAbove_write v hm h ha

/-- The empty buffer is canonical. -/
@[simp] theorem wf_nil : Memory.wf [] = true := rfl

/-- The byte at an address depends on the written bytes and on the reset counter only. -/
theorem byteAt_congr {s t : State} (hb : t.buf = s.buf) (hr : t.resets = s.resets) (a : Nat) : t.byteAt a = s.byteAt a := by
  simp [State.byteAt, hb, hr]

/-- A stored byte changes only its own byte. -/
@[simp] theorem byteAt_storeByte (s : State) (a b : Nat) (v : Byte) :
    (s.storeByte a v).byteAt b = if b = a then v else s.byteAt b := by
  simp only [State.byteAt, State.storeByte_buf, State.storeByte_resets, written_write]
  split_ifs <;> rfl

/-- A stored word changes its own four bytes, the least significant at the lowest address. -/
@[simp] theorem byteAt_storeWord (s : State) (a b : Nat) (v : Word) :
    (s.storeWord a v).byteAt b =
      if b = a then v.extractLsb' 0 8
      else if b = a + 1 then v.extractLsb' 8 8
      else if b = a + 2 then v.extractLsb' 16 8
      else if b = a + 3 then v.extractLsb' 24 8
      else s.byteAt b := by
  simp only [State.byteAt, State.storeWord, written_write]
  split_ifs <;> first | rfl | omega

/-- Storing a byte of the buffer keeps the canonical form. -/
theorem wf_storeByte {s : State} {a : Nat} (v : Byte) (hm : s.buf.wf = true) (ha : isBufAddr a = true) :
    (s.storeByte a v).buf.wf = true := wf_write v hm ha

/-- Storing an aligned word of the buffer keeps the canonical form. -/
theorem wf_storeWord {s : State} {a : Nat} (v : Word) (hm : s.buf.wf = true) (ha : isBufAddr a = true) (h4 : a % 4 = 0) :
    (s.storeWord a v).buf.wf = true := by
  have hk : ∀ k < 4, isBufAddr (a + k) = true := by
    intro k hk
    rw [isBufAddr_iff] at ha ⊢
    omega
  exact wf_write _ (wf_write _ (wf_write _ (wf_write _ hm ha) (hk 1 (by omega))) (hk 2 (by omega))) (hk 3 (by omega))

end Sys2Proof.Machine
end

