-- ==== Sys2Proof/Laws/Ops.lean ====
section
/-! SUPPORT. One lemma for each shared operation that says once everything it can do: the accept, the stream step, a bus
access. Later proofs cite these and do not unfold the operations. -/

namespace Sys2Proof.Machine

/-! ### Accept -/

/-- While Busy every accept is a dropped write (70_reset_and_hazards.md rule R176). -/
theorem accept_busy {s : State} (h : s.mode = .busy) (i : Instr) (r : Except CmdError (List Event)) :
    accept i r s = s.dropWrite := by
  simp [accept, h]

/-- The accept of an event list while Idle (10_state.md rule R37). -/
theorem accept_ok {s : State} (h : s.mode = .idle) (i : Instr) (l : List Event) :
    accept i (.ok l) s = acceptedState s i l := by
  obtain ⟨⟩ := s
  subst h
  cases l <;> rfl

/-- The accept of an error while Idle (60_exceptions.md rules R152, R153). -/
theorem accept_error {s : State} (h : s.mode = .idle) (i : Instr) (e : CmdError) :
    accept i (.error e) s = failedState s (errorCode e) := by
  obtain ⟨⟩ := s
  subst h
  rfl

/-- The accept of an illegal word while Idle (30_encoding.md rule R77). -/
theorem acceptIllegal_idle {s : State} (h : s.mode = .idle) : acceptIllegal s = failedState s 4#4 := by
  obtain ⟨⟩ := s
  subst h
  rfl

/-- An illegal word while Busy is a dropped write. -/
theorem acceptIllegal_busy {s : State} (h : s.mode = .busy) : acceptIllegal s = s.dropWrite := by
  simp [acceptIllegal, h]

/-- Every command's meaning is the accept of its Events(w) (30_encoding.md rule R76). -/
theorem exec_eq_accept (i : Instr) (s : State) : exec i s = .next (accept i (commandEvents s i) s) := by
  cases i <;> rfl

/-- The length check, by the three ranges of L (42_framer.md rule R131). -/
theorem validated_eq (s : State) (l : List Event) :
    validated s l = if s.len = 0 then .error .lenZero else if 65536 < s.len then .error .lenRange else .ok l := by
  unfold validated validateLen Config.lenMin Config.lenMax
  by_cases h0 : s.len = 0
  · simp [h0]
  · by_cases h1 : 65536 < s.len <;> simp [h0, h1]

/-- A valid length passes the check. -/
theorem validated_ok {s : State} (h1 : 1 ≤ s.len) (h2 : s.len ≤ 65536) (l : List Event) : validated s l = .ok l := by
  rw [validated_eq, if_neg (by omega), if_neg (by omega)]

/-- The hidden generator's start depends on the configuration, LENGTH, CONFIG and the buffer only, none of which the accept
changes. -/
@[simp] theorem startHidden_clearForAccept (s : State) (i : Instr) : startHidden s.clearForAccept i = startHidden s i := rfl

/-! ### Stream step -/

/-- Everything a stream step can do (10_state.md rules R23 to R25, R37; 60_exceptions.md rules R155, R157). -/
theorem streamStep_cases (s : State) :
    (s.mode = .idle ∧ streamStep s = s) ∨
    (s.mode = .busy ∧ s.pending = [] ∧ streamStep s = s) ∨
    (∃ k c rest, s.mode = .busy ∧ s.pending = .setChk k c :: rest ∧ streamStep s = (s.applyChk k c).retire rest) ∨
    (∃ v rest, s.mode = .busy ∧ s.pending = .sample v :: rest ∧ s.sinkErr = true ∧ streamStep s = s.raiseError .sink) ∨
    (∃ v rest, s.mode = .busy ∧ s.pending = .sample v :: rest ∧ s.sinkErr = false ∧ s.sReady = true ∧
      streamStep s = (s.handOver v).retire rest) ∨
    (∃ v rest, s.mode = .busy ∧ s.pending = .sample v :: rest ∧ s.sinkErr = false ∧ s.sReady = false ∧
      streamStep s = s) := by
  unfold streamStep
  rcases hm : s.mode with _ | _
  · exact .inl ⟨rfl, rfl⟩
  · rcases hp : s.pending with _ | ⟨_ | _, rest⟩
    · exact .inr (.inl ⟨rfl, rfl, rfl⟩)
    · cases he : s.sinkErr
      · cases hr : s.sReady
        · exact .inr (.inr (.inr (.inr (.inr ⟨_, rest, rfl, rfl, rfl, rfl, by simp⟩))))
        · exact .inr (.inr (.inr (.inr (.inl ⟨_, rest, rfl, rfl, rfl, rfl, by simp⟩))))
      · exact .inr (.inr (.inr (.inl ⟨_, rest, rfl, rfl, rfl, by simp⟩)))
    · exact .inr (.inr (.inl ⟨_, _, rest, rfl, rfl, rfl⟩))

/-- While Idle a stream step does nothing. -/
theorem streamStep_idle {s : State} (h : s.mode = .idle) : streamStep s = s := by
  simp [streamStep, h]

/-- A checksum point is applied whatever the sink's levels are. -/
theorem streamStep_setChk {s : State} {k : Seg} {c : Byte} {rest : List Event} (hm : s.mode = .busy)
    (hp : s.pending = .setChk k c :: rest) : streamStep s = (s.applyChk k c).retire rest := by
  simp [streamStep, hm, hp]

/-- At a sample, the sink's levels decide. -/
theorem streamStep_sample {s : State} {v : Int} {rest : List Event} (hm : s.mode = .busy)
    (hp : s.pending = .sample v :: rest) :
    streamStep s = if s.sinkErr then s.raiseError .sink else if s.sReady then (s.handOver v).retire rest else s := by
  simp [streamStep, hm, hp]

/-! ### Bus accesses -/

/-- A write while Busy is dropped; while Idle it has its effect. -/
theorem whileIdle_cases (s effect : State) :
    (s.mode = .idle ∧ whileIdle s effect = effect) ∨ (s.mode = .busy ∧ whileIdle s effect = s.dropWrite) := by
  unfold whileIdle
  cases s.mode <;> simp

/-- What no bus access but a CMD write ever changes: the stream, its counters and checksums, the generator, the sink, the
schedule (20_memory.md rules R55, R60). -/
theorem perform_frame (s : State) (a : Access) :
    (perform s a).cfg = s.cfg ∧ (perform s a).mode = s.mode ∧ (perform s a).pending = s.pending ∧
    (perform s a).errCode = s.errCode ∧ (perform s a).metaChk = s.metaChk ∧ (perform s a).progChk = s.progChk ∧
    (perform s a).sampleCount = s.sampleCount ∧ (perform s a).hidden = s.hidden ∧ (perform s a).sReady = s.sReady ∧
    (perform s a).sinkErr = s.sinkErr ∧ (perform s a).sunk = s.sunk ∧ (perform s a).env = s.env ∧
    (perform s a).resets = s.resets ∧ (perform s a).draws = s.draws := by
  cases hm : s.mode <;> cases a <;> simp [perform, whileIdle, hm]

/-- While Busy no bus access changes LENGTH, CONFIG or the buffer (20_memory.md rule R55, 70 rule R176). -/
theorem perform_busy_inputs {s : State} (h : s.mode = .busy) (a : Access) :
    (perform s a).length = s.length ∧ (perform s a).loadRun = s.loadRun ∧ (perform s a).irqEn = s.irqEn ∧
    (perform s a).buf = s.buf := by
  cases a <;> simp [perform, whileIdle, h]

/-- DONE, ERR and WWB after a bus access: a STATUS write clears the bits written as 1, a dropped write sets WWB, nothing else
touches them. -/
theorem perform_status (s : State) (a : Access) :
    ((perform s a).done = s.done ∧ (perform s a).err = s.err ∧ ((perform s a).wwb = s.wwb ∨ (perform s a).wwb = true)) ∨
    (∃ v, a = .writeStatus v ∧ (perform s a).done = clearedByOne s.done (v.getLsbD 1) ∧
      (perform s a).err = clearedByOne s.err (v.getLsbD 2) ∧ (perform s a).wwb = clearedByOne s.wwb (v.getLsbD 3)) := by
  cases a with
  | writeStatus v => exact .inr ⟨v, rfl, rfl, rfl, rfl⟩
  | unsupported => exact .inl ⟨rfl, rfl, .inl rfl⟩
  | readReg r => exact .inl ⟨rfl, rfl, .inl rfl⟩
  | writeIgnored => exact .inl ⟨rfl, rfl, .inl rfl⟩
  | readByte a => exact .inl ⟨rfl, rfl, .inl rfl⟩
  | readWord a => exact .inl ⟨rfl, rfl, .inl rfl⟩
  | writeLength v => rcases whileIdle_cases s (s.setLength v) with ⟨_, h⟩ | ⟨_, h⟩ <;> simp [perform, h]
  | writeConfig v => rcases whileIdle_cases s (s.setConfig v) with ⟨_, h⟩ | ⟨_, h⟩ <;> simp [perform, h]
  | writeByte a v => rcases whileIdle_cases s (s.storeByte a v) with ⟨_, h⟩ | ⟨_, h⟩ <;> simp [perform, h]
  | writeWord a v => rcases whileIdle_cases s (s.storeWord a v) with ⟨_, h⟩ | ⟨_, h⟩ <;> simp [perform, h]

/-- Every buffer access a transaction is classified as lies in the buffer, and a word access is aligned
(20_memory.md rules R51, R54). -/
theorem classify_buffer (tx : BusTx) :
    (∀ a v, classify tx = .access (.writeByte a v) → isBufAddr a = true) ∧
    (∀ a v, classify tx = .access (.writeWord a v) → isBufAddr a = true ∧ a % 4 = 0) := by
  have hlt := tx.addr.isLt
  have hb : ∀ v r a u, writeRequest v r ≠ .access (.writeByte a u) := by
    intro v r a u
    cases r <;> simp [writeRequest]
  have hw : ∀ v r a u, writeRequest v r ≠ .access (.writeWord a u) := by
    intro v r a u
    cases r <;> simp [writeRequest]
  constructor
  · intro a v h
    unfold classify Config.regWindowEnd Config.bufBase at h
    dsimp only at h
    split_ifs at h <;> first | exact absurd h (hb _ _ _ _) | cases h
    rw [isBufAddr_iff]
    omega
  · intro a v h
    unfold classify Config.regWindowEnd Config.bufBase at h
    dsimp only at h
    split_ifs at h <;> first | exact absurd h (hw _ _ _ _) | cases h
    rw [isBufAddr_iff]
    omega

/-- A bus access keeps the buffer's canonical form. -/
theorem perform_wf {s : State} {tx : BusTx} {a : Access} (hc : classify tx = .access a) (h : s.buf.wf = true) :
    (perform s a).buf.wf = true := by
  have hb := classify_buffer tx
  cases a with
  | writeByte a v =>
    rcases whileIdle_cases s (s.storeByte a v) with ⟨_, hw⟩ | ⟨_, hw⟩
    · simpa [perform, hw] using wf_storeByte v h (hb.1 a v hc)
    · simpa [perform, hw] using h
  | writeWord a v =>
    rcases whileIdle_cases s (s.storeWord a v) with ⟨_, hw⟩ | ⟨_, hw⟩
    · simpa [perform, hw] using wf_storeWord v h (hb.2 a v hc).1 (hb.2 a v hc).2
    · simpa [perform, hw] using h
  | writeLength v => rcases whileIdle_cases s (s.setLength v) with ⟨_, hw⟩ | ⟨_, hw⟩ <;> simpa [perform, hw] using h
  | writeConfig v => rcases whileIdle_cases s (s.setConfig v) with ⟨_, hw⟩ | ⟨_, hw⟩ <;> simpa [perform, hw] using h
  | writeStatus v => simpa [perform] using h
  | unsupported => simpa [perform] using h
  | readReg r => simpa [perform] using h
  | writeIgnored => simpa [perform] using h
  | readByte a => simpa [perform] using h
  | readWord a => simpa [perform] using h

end Sys2Proof.Machine
end

