-- ==== Sys2Proof/Laws/Hidden.lean ====
section
/-! SUPPORT. The hidden generator (10_state.md rule R38), call by call: what it has still to produce after entering a call,
after one event, and at the accept of a command. -/

namespace Sys2Proof.Machine

/-- Entering a call does not change which call it is. -/
theorem hiddenCall_enterCall (s : State) (h : Hidden) : hiddenCall s (enterCall s h) = hiddenCall s h := rfl

/-- Entering a call does not change what follows it. -/
theorem hiddenLater_enterCall (s : State) (h : Hidden) : hiddenLater s (enterCall s h) = hiddenLater s h := rfl

/-- A call just entered has all its samples to come (10_state.md rule R38: the phase restarts at 0). -/
theorem remaining_enterCall (s : State) (h : Hidden) :
    hiddenRemaining s (enterCall s h) = callEvents s.cfg.amplitude (hiddenCall s h) ++ hiddenLater s h := rfl

/-- A bit has a sample. -/
theorem bitCall_count_pos (v : Bool) : 1 ≤ (bitCall v).count := by cases v <;> decide

/-- A segment's data bytes are as many as the generator counts. -/
theorem segData_length (s : State) (k : Seg) : (segData s k).length = segCount s k := by
  cases k <;> simp [segData, segCount, metaData, progData]

/-- The byte the generator reads is the segment's data byte of that index. -/
theorem segData_getElem (s : State) (k : Seg) (i : Nat) (h : i < segCount s k) :
    (segData s k)[i]'(by rw [segData_length]; exact h) = segByte s k i := by
  cases k
  · simp [segData, segByte]; rw [List.getElem?_eq_getElem (by exact h)]; rfl
  · simp [segData, segByte, progData]

/-- The data from the generator's byte on. -/
theorem segData_drop (s : State) (k : Seg) (i : Nat) (h : i < segCount s k) :
    (segData s k).drop i = segByte s k i :: (segData s k).drop (i+1) := by
  rw [List.drop_eq_getElem_cons (by rw [segData_length]; exact h), segData_getElem s k i h]

/-- The data up to and with the generator's byte. -/
theorem segData_take (s : State) (k : Seg) (i : Nat) (h : i < segCount s k) :
    (segData s k).take (i+1) = (segData s k).take i ++ [segByte s k i] := by
  rw [List.take_succ_eq_append_getElem (by rw [segData_length]; exact h), segData_getElem s k i h]

/-- The bits below a position, the first one taken off. -/
theorem bitsBelow_pos (amp : Amplitude) (d : Byte) (i : Nat) (h : 0 < i) :
    bitsBelow amp d i = callEvents amp (bitCall (d.getLsbD (i-1))) ++ bitsBelow amp d (i-1) := by
  obtain ⟨j, rfl⟩ : ∃ j, i = j+1 := ⟨i-1, by omega⟩
  rfl

/-- No bit lies below position 0. -/
theorem bitsBelow_zero (amp : Amplitude) (d : Byte) : bitsBelow amp d 0 = [] := rfl

/-- A byte is its top bit and the bits below it (41_fsk.md rule R123). -/
theorem byteEvents_top (amp : Amplitude) (d : Byte) :
    byteEvents amp d = callEvents amp (bitCall (d.getLsbD 7)) ++ bitsBelow amp d 7 := rfl

/-- Of a valid length, each segment has a data byte. -/
theorem segCount_pos (s : State) (k : Seg) (h : 1 ≤ s.len) : 0 < segCount s k := by cases k <;> simp [segCount]; omega

/-- A segment just started has the whole segment to come, and what follows it. -/
theorem remaining_startSegment (s : State) (h : Hidden) (k : Seg) :
    hiddenRemaining s (startSegment s h k) = s.segment k ++ afterSegment s { h with seg := k } := by
  simp only [startSegment, remaining_enterCall, hiddenCall, hiddenLater, State.segment, segmentEvents, List.append_assoc]
  rfl

/-- A segment just started stands at its leader with the seed in the accumulator. -/
theorem placed_startSegment (s : State) (h : Hidden) (k : Seg) (hl : 1 ≤ s.len) :
    hiddenPlaced s (startSegment s h k) := by
  refine ⟨Nat.zero_add _, by simp [startSegment, enterCall], ?_⟩
  simp [startSegment, enterCall, hiddenCall, hl, Config.chkSeed, leaderCall, toneCall, Config.leaderN, Config.rate]

/-- After the last sample of a call the generator stands at the start of what it still had to produce, or has produced all. -/
theorem nextCall_spec (s : State) (h : Hidden) (hp : hiddenPlaced s h) (hs : h.stage ≠ .chkPoint) :
    hiddenLater s h = hiddenRemaining s (nextCall s h) ∧
      (hiddenPlaced s (nextCall s h) ∨ hiddenRemaining s (nextCall s h) = []) := by
  obtain ⟨cmd, stage, seg, phase, left, bitIdx, byteIdx, acc⟩ := h
  obtain ⟨p1, p2, p3⟩ := hp
  dsimp only at p2
  cases stage with
  | own =>
    obtain ⟨q1, q2, q3, q4⟩ := p3
    cases cmd with
    | byte d =>
      simp only [nextCall, nextBit]
      split_ifs with hb
      · refine ⟨?_, .inl ⟨Nat.zero_add _, ?_, ?_⟩⟩
        · rw [remaining_enterCall]; simp only [hiddenLater, hiddenCall]; exact bitsBelow_pos _ _ _ hb
        · simp [enterCall]; omega
        · simp [enterCall, hiddenCall, bitCall_count_pos]
      · have : bitIdx = 0 := by simpa using hb
        subst this
        exact ⟨rfl, .inr rfl⟩
    | frameMeta => exact absurd rfl q2
    | frameProg => exact absurd rfl q3
    | encode => exact absurd rfl q4
    | _ => exact ⟨rfl, .inr rfl⟩
  | leader =>
    obtain ⟨q1, q2, q3⟩ := p3
    refine ⟨?_, .inl ⟨Nat.zero_add _, by simpa [nextCall, enterCall] using p2, ?_⟩⟩
    · simp only [nextCall, remaining_enterCall, hiddenLater, hiddenCall, List.append_assoc]; rfl
    · simp only [nextCall, enterCall]; exact ⟨show 1 ≤ syncHighCall.count by decide, q2, q3⟩
  | syncHigh =>
    obtain ⟨q1, q2, q3⟩ := p3
    refine ⟨?_, .inl ⟨Nat.zero_add _, by simpa [nextCall, enterCall] using p2, ?_⟩⟩
    · simp only [nextCall, remaining_enterCall, hiddenLater, hiddenCall, List.append_assoc]; rfl
    · simp only [nextCall, enterCall]; exact ⟨show 1 ≤ syncLowCall.count by decide, q2, q3⟩
  | syncLow =>
    obtain ⟨q1, q2, q3⟩ := p3
    refine ⟨?_, .inl ⟨Nat.zero_add _, by simp [nextCall, enterCall], ?_⟩⟩
    · simp only [nextCall, remaining_enterCall, hiddenLater, hiddenCall, segmentBody]
      have := segData_drop s seg 0 (segCount_pos s seg q2)
      rw [List.drop_zero] at this
      conv_lhs => rw [this, List.flatMap_cons, byteEvents_top]
      simp only [List.append_assoc, Nat.zero_add]
      rw [← this]; rfl
    · simp only [nextCall, enterCall]; exact ⟨bitCall_count_pos _, q2, segCount_pos _ _ q2, q3⟩
  | payload =>
    obtain ⟨q1, q2, q3, q4⟩ := p3
    dsimp only at q3 q4
    simp only [nextCall, nextBit]
    split_ifs with hb
    · refine ⟨?_, .inl ⟨Nat.zero_add _, ?_, ?_⟩⟩
      · rw [remaining_enterCall]; simp only [hiddenLater, hiddenCall]; rw [bitsBelow_pos _ _ _ hb]; simp only [List.append_assoc]; rfl
      · simp [enterCall]; omega
      · simp only [enterCall]; exact ⟨bitCall_count_pos _, q2, q3, q4⟩
    · have : bitIdx = 0 := by simpa using hb
      subst this
      simp only [nextByte]
      have hacc : acc ^^^ segByte s seg byteIdx = checksum ((segData s seg).take (byteIdx + 1)) := by
        rw [segData_take s seg byteIdx q3, checksum_append, q4]
      split_ifs with hk
      · refine ⟨?_, .inl ⟨Nat.zero_add _, by simp [enterCall], ?_⟩⟩
        · rw [remaining_enterCall]
          simp only [hiddenLater, hiddenCall, bitsBelow_zero, List.nil_append]
          rw [segData_drop s seg (byteIdx+1) hk, List.flatMap_cons, byteEvents_top]
          simp only [List.append_assoc, afterSegment]
        · simp only [enterCall]; exact ⟨bitCall_count_pos _, q2, hk, hacc⟩
      · have hend : byteIdx + 1 = (segData s seg).length := by rw [segData_length]; omega
        rw [hend, List.take_length] at hacc
        refine ⟨?_, .inl ⟨Nat.zero_add _, by simp [enterCall], ?_⟩⟩
        · rw [remaining_enterCall]
          simp only [hiddenLater, hiddenCall, bitsBelow, List.nil_append, hend, List.drop_length, List.flatMap_nil, hacc]; rfl
        · simp only [enterCall]; exact ⟨q2, hacc⟩
  | chkPoint => exact absurd rfl hs
  | checksum =>
    obtain ⟨q1, q2, q3⟩ := p3
    dsimp only at q3
    simp only [nextCall, nextBit]
    split_ifs with hb
    · refine ⟨?_, .inl ⟨Nat.zero_add _, ?_, ?_⟩⟩
      · rw [remaining_enterCall]; simp only [hiddenLater, hiddenCall]; rw [bitsBelow_pos _ _ _ hb]; simp only [List.append_assoc]; rfl
      · simp [enterCall]; omega
      · simp only [enterCall]; exact ⟨bitCall_count_pos _, q2, q3⟩
    · have : bitIdx = 0 := by simpa using hb
      subst this
      refine ⟨?_, .inl ⟨Nat.zero_add _, by simp [enterCall], ?_⟩⟩
      · rw [remaining_enterCall]; simp only [hiddenLater, hiddenCall, bitsBelow, List.nil_append]; rfl
      · simp only [enterCall]; exact ⟨bitCall_count_pos _, q2⟩
  | footer =>
    obtain ⟨q1, q2⟩ := p3
    simp only [nextCall, afterFooter]
    split_ifs with hc
    · cases seg
      · refine ⟨?_, .inl (placed_startSegment _ _ _ q2)⟩
        rw [remaining_startSegment]; simp only [hiddenLater, afterSegment, if_pos hc]
      · refine ⟨?_, .inl ⟨Nat.zero_add _, by simpa [enterCall] using p2, ?_⟩⟩
        · rw [remaining_enterCall]; simp only [hiddenLater, afterSegment, if_pos hc, hiddenCall, List.append_nil]
        · simp only [enterCall]; show 1 ≤ trailCall.count; decide
    · refine ⟨?_, .inr rfl⟩
      simp only [hiddenLater, afterSegment, if_neg hc]; rfl
  | trailing => exact ⟨rfl, .inr rfl⟩
  | finished => exact p3.elim

/-- One event: it is the head of what the generator had to produce, and the generator then stands at the rest. -/
theorem advanceHidden_spec (s : State) (h : Hidden) (hp : hiddenPlaced s h) :
    hiddenRemaining s h = hiddenEvent s h :: hiddenRemaining s (advanceHidden s h) ∧
    (hiddenPlaced s (advanceHidden s h) ∨ hiddenRemaining s (advanceHidden s h) = []) := by
  by_cases hs : h.stage = .chkPoint
  · obtain ⟨cmd, stage, seg, phase, left, bitIdx, byteIdx, acc⟩ := h
    subst hs
    obtain ⟨p1, p2, q2, q3⟩ := hp
    have hl : left = 0 := by
      have : phase + left = 0 := p1
      omega
    subst hl
    refine ⟨?_, .inl ⟨Nat.zero_add _, by simp [advanceHidden, nextCall, enterCall], ?_⟩⟩
    · show _ = _ :: hiddenRemaining s (enterCall s _)
      rw [remaining_enterCall]
      simp only [hiddenRemaining, waveEvents_none, hiddenLater, segmentEnd, hiddenEvent, hiddenCall, byteEvents_top, List.append_assoc, List.nil_append, List.cons_append]
      rfl
    · exact ⟨bitCall_count_pos _, q2, q3⟩
  · have hl : 1 ≤ h.left := by
      obtain ⟨p1, p2, p3⟩ := hp
      revert p3; cases hst : h.stage <;> simp_all
    have he : hiddenEvent s h = .sample (waveValue s.cfg.amplitude (hiddenCall s h).wave h.phase) := by
      unfold hiddenEvent; cases hst : h.stage <;> simp_all
    obtain ⟨n, hn⟩ : ∃ n, h.left = n + 1 := ⟨h.left - 1, by omega⟩
    rw [hiddenRemaining, hn, waveEvents_succ, ← he, List.cons_append]
    unfold advanceHidden
    split_ifs with h1
    · refine ⟨?_, .inl ?_⟩
      · simp only [hiddenRemaining]
        rw [show h.left - 1 = n by omega]; rfl
      · obtain ⟨cmd, stage, seg, phase, left, bitIdx, byteIdx, acc⟩ := h
        obtain ⟨p1, p2, p3⟩ := hp
        refine ⟨?_, p2, ?_⟩
        · show phase + 1 + (left - 1) = _
          have : phase + left = (hiddenCall s ⟨cmd, stage, seg, phase, left, bitIdx, byteIdx, acc⟩).count := p1
          dsimp only at h1
          rw [show phase + 1 + (left - 1) = phase + left by omega, this]; rfl
        · have h2 : 1 ≤ left - 1 := by dsimp only at h1; omega
          cases stage <;> first | exact absurd rfl hs | skip
          all_goals first | exact ⟨h2, p3.2⟩ | exact h2 | exact p3.elim
    · have : n = 0 := by omega
      subst this
      obtain ⟨a, b⟩ := nextCall_spec s h hp hs
      exact ⟨by rw [waveEvents_none, List.nil_append, a], b⟩

/-- At the accept of a command with events, the generator stands at their start. -/
theorem startHidden_spec (s : State) (i : Instr) (l : List Event) (hl : commandEvents s i = .ok l) (hne : l ≠ []) :
    hiddenPlaced s (startHidden s i) ∧ hiddenRemaining s (startHidden s i) = l := by
  have hlen : ∀ l', validated s l' = .ok l → 1 ≤ s.len ∧ l' = l := by
    intro l' h; rw [validated_eq] at h; split_ifs at h with h0
    injection h with h; exact ⟨by omega, h⟩
  cases i with
  | frameMeta =>
    obtain ⟨h1, h2⟩ := hlen _ hl
    refine ⟨placed_startSegment _ _ _ h1, ?_⟩
    show hiddenRemaining s (startSegment s _ _) = l
    rw [remaining_startSegment, ← h2]; simp [afterSegment]
  | frameProg =>
    obtain ⟨h1, h2⟩ := hlen _ hl
    refine ⟨placed_startSegment _ _ _ h1, ?_⟩
    show hiddenRemaining s (startSegment s _ _) = l
    rw [remaining_startSegment, ← h2]; simp [afterSegment]
  | encode =>
    obtain ⟨h1, h2⟩ := hlen _ hl
    refine ⟨placed_startSegment _ _ _ h1, ?_⟩
    show hiddenRemaining s (startSegment s _ _) = l
    rw [remaining_startSegment, ← h2]; simp [afterSegment, encodeEvents]
  | byte d =>
    injection hl with hl
    exact ⟨⟨Nat.zero_add _, by simp [startHidden, enterCall], bitCall_count_pos _,
      by simp [startHidden, enterCall], by simp [startHidden, enterCall], by simp [startHidden, enterCall]⟩,
      by rw [← hl]; rfl⟩
  | bit d =>
    injection hl with hl
    exact ⟨⟨Nat.zero_add _, by simp [startHidden, enterCall], bitCall_count_pos _,
      by simp [startHidden, enterCall], by simp [startHidden, enterCall], by simp [startHidden, enterCall]⟩,
      by rw [← hl]; show _ ++ [] = _; rw [List.append_nil]; rfl⟩
  | cycle f =>
    injection hl with hl
    exact ⟨⟨Nat.zero_add _, by simp [startHidden, enterCall], by cases f <;> (show 1 ≤ cycleCount _; decide),
      by simp [startHidden, enterCall], by simp [startHidden, enterCall], by simp [startHidden, enterCall]⟩,
      by rw [← hl]; show _ ++ [] = _; rw [List.append_nil]; rfl⟩
  | half f p =>
    injection hl with hl
    exact ⟨⟨Nat.zero_add _, by simp [startHidden, enterCall], by cases f <;> show 1 ≤ halfCount _ <;> decide,
      by simp [startHidden, enterCall], by simp [startHidden, enterCall], by simp [startHidden, enterCall]⟩,
      by rw [← hl]; show _ ++ [] = _; rw [List.append_nil]; rfl⟩
  | tone f n =>
    injection hl with hl
    have hn : 1 ≤ n := by
      rcases n with _ | n
      · exact absurd (hl ▸ rfl) hne
      · omega
    exact ⟨⟨Nat.zero_add _, by simp [startHidden, enterCall], hn,
      by simp [startHidden, enterCall], by simp [startHidden, enterCall], by simp [startHidden, enterCall]⟩,
      by rw [← hl]; show _ ++ [] = _; rw [List.append_nil]; rfl⟩
  | silence n =>
    injection hl with hl
    have hn : 1 ≤ n := by
      rcases n with _ | n
      · exact absurd (hl ▸ rfl) hne
      · omega
    exact ⟨⟨Nat.zero_add _, by simp [startHidden, enterCall], hn,
      by simp [startHidden, enterCall], by simp [startHidden, enterCall], by simp [startHidden, enterCall]⟩,
      by rw [← hl]; show _ ++ [] = _; rw [List.append_nil]; rfl⟩

end Sys2Proof.Machine
end

