-- ==== Sys2Proof/Laws/PerInstr.lean ====
section
/-! SUPPORT. Statements about every instruction as syntax, made per instruction: one lemma for each constructor of Instr. -/

namespace Sys2Proof.Laws

namespace EncodeMatchesRow

/-- The word of an instruction has its row's fixed bits (30_encoding.md rule R75). -/
def Statement (i : Instr) : Prop :=
  ∀ r ∈ Machine.opcodeMap, r.mnemonic = Machine.mnemonicOf i → encode i &&& r.mask = r.matchWord

/-- A fact about the one row with a mnemonic, whose mask is `k` and whose match is `w`. -/
theorem row_of_mnemonic {P : Word → Word → Prop} {m : String} {w k : Word}
    (h : ∀ r ∈ Machine.opcodeMap, r.mnemonic = m → r.mask = k ∧ r.matchWord = w) (hp : P k w) :
    ∀ r ∈ Machine.opcodeMap, r.mnemonic = m → P r.mask r.matchWord := by
  intro r hr hm
  obtain ⟨hk, hw⟩ := h r hr hm
  rw [hk, hw]
  exact hp

/-- Under a mask that covers the high byte only, the 24-bit operand below it drops out. -/
theorem masked_append {a k m : BitVec 8} (x : BitVec 24) (h : a &&& k = m) :
    (a ++ x : BitVec (8 + 24)) &&& (k ++ 0#24 : BitVec (8 + 24)) = (m ++ 0#24 : BitVec (8 + 24)) := by
  subst h
  apply BitVec.eq_of_getLsbD_eq
  intro i _
  rw [BitVec.getLsbD_and, BitVec.getLsbD_append, BitVec.getLsbD_append, BitVec.getLsbD_append]
  by_cases hi : i < 24 <;> simp [hi]

theorem tone (f : Freq) (n : Nat) : Statement (.tone f n) := by
  refine row_of_mnemonic (P := fun k w => Sys2Proof.encode (.tone f n) &&& k = w) (m := "TONE") (w := 0x10000000#32)
    (k := 0xF3000000#32) (by decide) ?_
  exact masked_append (a := 0x1#4 ++ f.fsel ++ 0#2) (k := 0xF3#8) (m := 0x10#8) (BitVec.ofNat 24 n) (by cases f <;> decide)

theorem cycle (f : Freq) : Statement (.cycle f) := by
  cases f <;> (unfold Statement; decide)

theorem half (f : Freq) (p : Polarity) : Statement (.half f p) := by
  cases f <;> cases p <;> (unfold Statement; decide)

theorem silence (n : Nat) : Statement (.silence n) := by
  refine row_of_mnemonic (P := fun k w => Sys2Proof.encode (.silence n) &&& k = w) (m := "SILENCE") (w := 0x40000000#32)
    (k := 0xFF000000#32) (by decide) ?_
  exact masked_append (a := 0x4#4 ++ 0#4) (k := 0xFF#8) (m := 0x40#8) (BitVec.ofNat 24 n) (by decide)

theorem bit (v : Bool) : Statement (.bit v) := by
  cases v <;> (unfold Statement; decide)

theorem byte (d : Byte) : Statement (.byte d) := by
  refine row_of_mnemonic (P := fun k w => Sys2Proof.encode (.byte d) &&& k = w) (m := "BYTE") (w := 0x60000000#32)
    (k := 0xFFFFFF00#32) (by decide) ?_
  revert d
  decide

theorem frameMeta : Statement .frameMeta := by
  unfold Statement
  decide

theorem frameProg : Statement .frameProg := by
  unfold Statement
  decide

theorem encode : Statement .encode := by
  unfold Statement
  decide

end EncodeMatchesRow

end Sys2Proof.Laws
end

