-- ==== Sys2Proof/Laws/Step.lean ====
section
/-! SUPPORT. What one step can do, said once: later proofs cite `step_cases` and do not unfold `step`. -/

namespace Sys2Proof.Machine

/-- A transaction is a command exactly when it is a supported write to CMD (10_state.md rule R29, 20_memory.md rule R54). -/
theorem classify_command_iff (tx : BusTx) (w : Word) : classify tx = .command w ↔ tx = ⟨0x00000#17, 4, true, w⟩ := by
  constructor
  · obtain ⟨addr, size, write, wdata⟩ := tx
    intro h
    unfold classify Config.regWindowEnd Config.bufBase at h
    dsimp only at h
    split_ifs at h with h1 h2 h3
    · have hr : regAt addr.toNat = .cmd ∧ wdata = w := by
        revert h
        cases regAt addr.toNat <;> simp [writeRequest]
      have ha : addr.toNat = 0 := by
        have := hr.1
        unfold regAt at this
        split_ifs at this with h0
        exact h0
      have : addr = 0x00000#17 := BitVec.eq_of_toNat_eq (by simpa using ha)
      subst this
      simp_all
  · rintro rfl
    rfl

/-- The host's `CMD x` is a command (30_encoding.md rule R81). -/
@[simp] theorem classify_hostCMD (w : Word) : classify ⟨0x00000#17, 4, true, w⟩ = .command w := rfl

/-- Everything one step can do: a stream step at the levels the sink drives or holds, a reset, the accept of a legal or of an
illegal command word, or another bus access. -/
theorem step_cases {s t : State} (h : step s = .next t) :
    (∃ rest r e, (s.env = .stream r e :: rest ∨ (s.env = [] ∧ rest = [] ∧ r = s.sReady ∧ e = s.sinkErr)) ∧
      t = streamStep ((s.beginStep rest).driveSink r e)) ∨
    (∃ rest, s.env = .rst :: rest ∧ t = (s.beginStep rest).takeReset) ∨
    (∃ rest w i, s.env = hostCMD w :: rest ∧ decode w = .ok i ∧
      t = accept i (commandEvents ((s.beginStep rest).respond .okay none) i) ((s.beginStep rest).respond .okay none)) ∨
    (∃ rest w e, s.env = hostCMD w :: rest ∧ decode w = .error e ∧
      t = acceptIllegal ((s.beginStep rest).respond .okay none)) ∨
    (∃ rest tx a, s.env = .bus tx :: rest ∧ classify tx = .access a ∧ t = perform (s.beginStep rest) a) := by
  unfold step at h
  rcases he : s.env with _ | ⟨_ | _ | ⟨r, e⟩, rest⟩ <;> simp only [he] at h
  · injection h with h
    exact .inl ⟨[], s.sReady, s.sinkErr, .inr ⟨rfl, rfl, rfl, rfl⟩, h.symm⟩
  · rename_i tx
    rcases hc : classify tx with w | a <;> simp only [hc] at h
    · obtain rfl := (classify_command_iff tx w).mp hc
      rcases hd : decode w with e | i <;> simp only [runCommand, hd] at h
      · injection h with h
        exact .inr (.inr (.inr (.inl ⟨rest, w, e, rfl, hd, h.symm⟩)))
      · rw [exec_eq_accept] at h
        injection h with h
        exact .inr (.inr (.inl ⟨rest, w, i, rfl, hd, h.symm⟩))
    · injection h with h
      exact .inr (.inr (.inr (.inr ⟨rest, tx, a, rfl, hc, h.symm⟩)))
  · injection h with h
    exact .inr (.inl ⟨rest, rfl, h.symm⟩)
  · injection h with h
    exact .inl ⟨rest, r, e, .inl rfl, h.symm⟩

/-- A step with nothing scheduled. -/
theorem step_nil {s : State} (h : s.env = []) : step s = .next (streamStep (s.beginStep [])) := by
  simp [step, h]

/-- A step at which the sink drives its levels. -/
theorem step_stream {s : State} {r e : Bool} {rest : List EnvEvent} (h : s.env = .stream r e :: rest) :
    step s = .next (streamStep ((s.beginStep rest).driveSink r e)) := by
  simp [step, h]

/-- A step at which the host asserts rst. -/
theorem step_rst {s : State} {rest : List EnvEvent} (h : s.env = .rst :: rest) :
    step s = .next (s.beginStep rest).takeReset := by
  simp [step, h]

/-- A step at which the host writes a legal word to CMD. -/
theorem step_command {s : State} {w : Word} {i : Instr} {rest : List EnvEvent} (h : s.env = hostCMD w :: rest)
    (hd : decode w = .ok i) : step s = exec i ((s.beginStep rest).respond .okay none) := by
  simp [step, h, hostCMD, hostWR, runCommand, hd]

/-- A step at which the host writes an illegal word to CMD. -/
theorem step_illegal {s : State} {w : Word} {e : DecodeError} {rest : List EnvEvent} (h : s.env = hostCMD w :: rest)
    (hd : decode w = .error e) : step s = .next (acceptIllegal ((s.beginStep rest).respond .okay none)) := by
  simp [step, h, hostCMD, hostWR, runCommand, hd]

/-- A step at which the host performs another bus access. -/
theorem step_access {s : State} {tx : BusTx} {a : Access} {rest : List EnvEvent} (h : s.env = .bus tx :: rest)
    (hc : classify tx = .access a) : step s = .next (perform (s.beginStep rest) a) := by
  simp [step, h, hc]

end Sys2Proof.Machine
end

