-- ==== Sys2Proof/Tests/Slice0.lean ====
section
/-! SUPPORT. The model's own tests: the well-formedness check, words written out bit by bit from the formats of
30_encoding.md, single steps with the results 95_test_vectors.md and the rules' examples print, and, for every statement
that has hypotheses, a witness that meets them. -/

namespace Sys2Proof.Tests

open Sys2Proof Sys2Proof.Machine

/-! ### Helpers -/

/-- The state one step leads to. -/
def after (s : State) : State :=
  match step s with
  | .next t => t
  | .fault _ => s
  | .refused _ => s

/-- A machine after reset, with a schedule. -/
def idleWith (env : List EnvEvent) : State := { State.reset with env := env }

/-- A Busy machine with events pending and a schedule. -/
def busyWith (l : List Event) (env : List EnvEvent) : State := { State.reset with mode := .busy, pending := l, env := env }

/-- The machine after the accept of one command word, written right after reset. -/
def accepted (w : Word) : State := after (idleWith [hostCMD w])

/-- A machine after reset with LENGTH.L set. -/
def withLength (l : BitVec 17) (env : List EnvEvent) : State := { State.reset with length := l, env := env }

/-! ### Well-formedness: an ill-formed term for each check -/

theorem test_wf_tone_limit : (Instr.tone .f770 (2 ^ 24 - 1)).wf = true ∧ (Instr.tone .f770 (2 ^ 24)).wf = false := by decide

theorem test_wf_silence_limit : (Instr.silence (2 ^ 24 - 1)).wf = true ∧ (Instr.silence (2 ^ 24)).wf = false := by decide

/-! ### Decoding: words written out from the formats of rule R71 -/

/-- Format T: OP 0001, FSEL 10, 00, N = 1 (rule R71). -/
theorem test_decode_tone : decode 0b0001_10_00_000000000000000000000001#32 = .ok (.tone .f2000 1) := by decide

/-- Format C: OP 0010, FSEL 01, zeros (rule R71). -/
theorem test_decode_cycle : decode 0b0010_01_00000000000000000000000000#32 = .ok (.cycle .f1000) := by decide

/-- Format H: OP 0011, FSEL 11, POL 1, zeros (rule R71). -/
theorem test_decode_half : decode 0b0011_11_1_0000000000000000000000000#32 = .ok (.half .f2500 .low) := by decide

/-- Format S: OP 0100, 0000, N = 2^23 (rule R71). -/
theorem test_decode_silence : decode 0b0100_0000_100000000000000000000000#32 = .ok (.silence 8388608) := by decide

/-- Format B1: OP 0101, zeros, V = 1 (rule R71). -/
theorem test_decode_bit : decode 0b0101_000000000000000000000000000_1#32 = .ok (.bit true) := by decide

/-- Format B8: OP 0110, zeros, D = 1010_0101 (rule R71). -/
theorem test_decode_byte : decode 0b0110_00000000000000000000_10100101#32 = .ok (.byte 0xA5#8) := by decide

/-- Format Z, the three OPs (rules R71, R75). -/
theorem test_decode_framers :
    decode 0b0111_0000000000000000000000000000#32 = .ok .frameMeta ∧
    decode 0b1000_0000000000000000000000000000#32 = .ok .frameProg ∧
    decode 0b1001_0000000000000000000000000000#32 = .ok .encode := by decide

/-- One reserved bit of each format set, at the edge of its field (rules R71, R77), and the illegal OPs. -/
theorem test_decode_refuses :
    decode 0x12000000#32 = .error .reservedBitSet ∧ decode 0x22000000#32 = .error .reservedBitSet ∧
    decode 0x31000000#32 = .error .reservedBitSet ∧ decode 0x48000000#32 = .error .reservedBitSet ∧
    decode 0x50000002#32 = .error .reservedBitSet ∧ decode 0x60000100#32 = .error .reservedBitSet ∧
    decode 0x70000001#32 = .error .reservedBitSet ∧ decode 0x88000000#32 = .error .reservedBitSet ∧
    decode 0x90000001#32 = .error .reservedBitSet ∧ decode 0x00000000#32 = .error .illegalOpcode ∧
    decode 0xA0000000#32 = .error .illegalOpcode ∧ decode 0xF0000000#32 = .error .illegalOpcode := by decide

/-- Assembler lines (rules R79, R80, R82). -/
theorem test_assemble :
    assemble "tone 770, 44100 ; leader" = some [0x1000AC44#32] ∧
    assemble "SYNC" = some [0x3C000000#32, 0x3A000000#32] ∧
    assemble "BYTE 0xA5" = some [0x600000A5#32] ∧
    assemble "CYCLE 440" = none ∧ assemble "BYTE 256" = none ∧ assemble "HALF 770, MID" = none := by decide

/-! ### One step per command (40_synth.md, 41_fsk.md, 42_framer.md) -/

/-- TONE 770, 8 starts [0, 40, 73, 92, 93, 77, 46, 6] (40_synth.md rule R106). -/
theorem test_tone_prefix :
    (accepted 0x10000008#32).pending = [0, 40, 73, 92, 93, 77, 46, 6].map Event.sample ∧
    (accepted 0x10000008#32).statusWord = 0x00000001#32 := by decide

/-- TONE with N = 0 is DONE at accept (40_synth.md rule R108). -/
theorem test_tone_zero :
    (accepted 0x10000000#32).pending = [] ∧ (accepted 0x10000000#32).statusWord = 0x00000002#32 := by decide

/-- CYCLE 2000 is [0, 86, 72, -26, -94] (40_synth.md rule R109). -/
theorem test_cycle_2000 : (accepted 0x28000000#32).pending = [0, 86, 72, -26, -94].map Event.sample := by decide

/-- HALF 2000, LOW is [0, -86], HALF 2500, HIGH is [0, 94] (40_synth.md rule R110). -/
theorem test_half_polarity :
    (accepted 0x3A000000#32).pending = [0, -86].map Event.sample ∧
    (accepted 0x3C000000#32).pending = [0, 94].map Event.sample := by decide

/-- SILENCE 3 is three zeros (40_synth.md rule R111). -/
theorem test_silence_three : (accepted 0x40000003#32).pending = [0, 0, 0].map Event.sample := by decide

/-- BIT 1 is the 1000 Hz cycle (41_fsk.md rule R121). -/
theorem test_bit_one :
    (accepted 0x50000001#32).pending = [0, 51, 86, 94, 72, 27, -26, -71, -94, -87, -52].map Event.sample := by decide

/-- BYTE 0x80 sends its one bit first: 11 samples, then seven times 5 (41_fsk.md rule R123). -/
theorem test_byte_msb_first :
    (accepted 0x60000080#32).pending.take 13 =
      [0, 51, 86, 94, 72, 27, -26, -71, -94, -87, -52, 0, 86].map Event.sample ∧
    (accepted 0x60000080#32).pending.length = 46 := by decide

/-- FRAME.META with L = 0 fails with LEN_ZERO, STATUS = 0x14 (95_test_vectors.md T5). -/
theorem test_frameMeta_len_zero : (accepted 0x70000000#32).statusWord = 0x00000014#32 := by decide

/-- The metadata bytes and their checksum, L = 257, LOAD_RUN = 1 (95_test_vectors.md T3). -/
theorem test_frameMeta_bytes :
    metaData 257 true = [0x00#8, 0x01#8, 0xD5#8] ∧ checksum (metaData 257 true) = 0x2B#8 := by decide

/-- FRAME.PROG with L = 131071 fails with LEN_RANGE, STATUS = 0x24 (95_test_vectors.md T5). -/
theorem test_frameProg_len_range :
    (after (withLength 131071#17 [hostCMD 0x80000000#32])).statusWord = 0x00000024#32 := by decide

/-- The program bytes [0x01, 0x02] and their checksum 0xFC (95_test_vectors.md T4, T9). -/
theorem test_frameProg_bytes :
    progData { State.reset with buf := [(0x10000, 0x01#8), (0x10001, 0x02#8)] } 2 = [0x01#8, 0x02#8] ∧
    checksum [0x01#8, 0x02#8] = 0xFC#8 := by decide

/-- ENCODE with L = 65537 fails with LEN_RANGE, STATUS = 0x24 (95_test_vectors.md T5). -/
theorem test_encode_len_range :
    (after (withLength 65537#17 [hostCMD 0x90000000#32])).statusWord = 0x00000024#32 := by decide

/-- ENCODE with L = 1 starts with the leader (95_test_vectors.md T7). -/
theorem test_encode_starts_with_leader :
    (after (withLength 1#17 [hostCMD 0x90000000#32])).pending.take 4 = [0, 40, 73, 92].map Event.sample := by
  decide +kernel

/-- An illegal word: ERR with code 4, STATUS = 0x44 (30_encoding.md rule R77). -/
theorem test_illegal_word : (accepted 0x11000000#32).statusWord = 0x00000044#32 := by decide

/-! ### Bus, stream, reset -/

/-- Reading back 0xFFFFFFFF from LENGTH gives 0x0001FFFF (10_state.md rule R31). -/
theorem test_length_reserved_bits :
    (after { after (idleWith [hostWR 0x08#17 0xFFFFFFFF#32]) with env := [hostRD 0x08#17] }).busOut =
      some ⟨.okay, some 0x0001FFFF#32⟩ := by decide

/-- A 4-byte read after byte writes is little-endian (20_memory.md rule R53). -/
theorem test_buffer_little_endian :
    (after { State.reset with
      buf := [(0x10000, 0x11#8), (0x10001, 0x22#8), (0x10002, 0x33#8), (0x10003, 0x44#8)]
      env := [hostRD 0x10000#17] }).busOut = some ⟨.okay, some 0x44332211#32⟩ := by decide

/-- The hole answers ERROR with rdata = 0 (20_memory.md rule R54). -/
theorem test_hole_error : (after (idleWith [hostRD 0x00020#17])).busOut = some ⟨.error, some 0x00000000#32⟩ := by decide

/-- A buffer write while Busy is dropped and sets WWB (70_reset_and_hazards.md rule R176). -/
theorem test_busy_write_dropped :
    (after (busyWith [.sample 94] [hostWRB 0x10000#17 0x55#8])).buf = [] ∧
    (after (busyWith [.sample 94] [hostWRB 0x10000#17 0x55#8])).statusWord = 0x00000009#32 := by decide

/-- The last transfer terminates with DONE; the pattern of −86 is 0xAA (10_state.md rules R21, R37). -/
theorem test_last_transfer :
    (after (busyWith [.sample (-86)] [.stream true false])).statusWord = 0x00000002#32 ∧
    (after (busyWith [.sample (-86)] [.stream true false])).sunk = [0xAA#8] ∧
    (after (busyWith [.sample (-86)] [.stream true false])).sampleCount = 1#32 := by decide

/-- sink_err at a sample wins over a ready sink: STATUS = 0x34 (60_exceptions.md rules R155, R157 c). -/
theorem test_sink_abort :
    (after (busyWith [.sample 94] [.stream true true])).statusWord = 0x00000034#32 ∧
    (after (busyWith [.sample 94] [.stream true true])).sampleCount = 0#32 := by decide

/-- A checksum point is applied whatever sink_err is (10_state.md rule R25). -/
theorem test_setChk_applied :
    (after (busyWith [.setChk .progSeg 0xFC#8, .sample 0] [.stream false true])).progChk = 0xFC#8 ∧
    (after (busyWith [.setChk .progSeg 0xFC#8, .sample 0] [.stream false true])).statusWord = 0x00000001#32 := by decide

/-- Reset in the middle of a command (70_reset_and_hazards.md rule R170). -/
theorem test_reset_discards :
    (after (busyWith [.sample 94] [.rst])).pending = [] ∧
    (after (busyWith [.sample 94] [.rst])).statusWord = 0x00000000#32 := by decide

/-- The memory of the reset state has the canonical form. -/
theorem test_reset_memory_wf : State.reset.buf.wf = true := by decide

/-! ### Witnesses: concrete values that meet the hypotheses of each statement -/

theorem witness_DecodeOfEncodeGivesInstruction :
    (Instr.tone .f2500 16777215).WellFormed ∧ (Instr.silence 0).WellFormed ∧ (Instr.half .f770 .low).WellFormed := by decide

theorem witness_EncodeOfDecodeGivesWord :
    decode 0x1CFFFFFF#32 = .ok (.tone .f2500 16777215) ∧ decode 0x9000_0000#32 = .ok .encode := by decide

theorem witness_WordEncodesRowExactlyWhenMaskMatches :
    (∀ r ∈ opcodeMap, r.matchWord &&& r.mask = r.matchWord) ∧
    ∀ r ∈ opcodeMap, 0x11000000#32 &&& r.mask ≠ r.matchWord := by decide

/-- A word for each disjunct of Illegal, written while Idle. -/
theorem witness_IllegalWordTerminatesAtAcceptWithCode4 :
    (Illegal 0x0FFFFFFF#32 ∧ Illegal 0xA0000000#32 ∧ Illegal 0xFFFFFFFF#32 ∧ Illegal 0x11000000#32 ∧
      Illegal 0x20000001#32 ∧ Illegal 0x30000001#32 ∧ Illegal 0x41000000#32 ∧ Illegal 0x50000002#32 ∧
      Illegal 0x60000100#32 ∧ Illegal 0x70000001#32 ∧ Illegal 0x80000001#32 ∧ Illegal 0x90000001#32) ∧
    ∀ w : Word, (idleWith [hostCMD w]).mode = .idle ∧ (idleWith [hostCMD w]).env = hostCMD w :: [] := by
  refine ⟨?_, fun _ => ⟨rfl, rfl⟩⟩
  refine ⟨?_, ?_, ?_, ?_, ?_, ?_, ?_, ?_, ?_, ?_, ?_, ?_⟩ <;> (unfold Illegal; decide)

theorem witness_TablesHaveTheirZerosSymmetryAndStride :
    (0 < 314 ∧ 314 < romPeriod .f770) ∧ (40 * 2) % 441 = (80 * 1) % 441 ∧ (40 * 5) % 441 = (100 * 2) % 441 ∧
    romEntry .threeQuartersOf127 .f770 136 = 0 ∧ romEntry .threeQuartersOf128 .f2500 355 = 0 := by decide

/-- TONE, CYCLE, HALF, SILENCE, BIT and BYTE ask only that the CTE be Idle, as it is after reset. -/
theorem witness_ToneStreamsOneCallOfN : State.reset.mode = .idle := rfl

theorem witness_CycleStreamsOnePeriod : State.reset.mode = .idle := rfl

theorem witness_HalfStreamsHalfAPeriodWithPolarity : State.reset.mode = .idle := rfl

theorem witness_SilenceStreamsZeros : State.reset.mode = .idle := rfl

theorem witness_BitStreamsOneCycle : State.reset.mode = .idle := rfl

theorem witness_ByteStreamsBitsMsbFirst : State.reset.mode = .idle := rfl

/-- A length for each clause, at the ends of its range. -/
theorem witness_LengthIsValidatedAtAcceptByFramersOnly :
    State.reset.mode = .idle ∧ State.reset.length.toNat = 0 ∧
    65536 < (withLength 65537#17 []).length.toNat ∧ 65536 < (withLength 131071#17 []).length.toNat ∧
    1 ≤ (withLength 1#17 []).length.toNat ∧ (withLength 65536#17 []).length.toNat ≤ 65536 ∧
    Instr.byte 0xFF#8 ∉ [Instr.frameMeta, Instr.frameProg, Instr.encode] ∧
    ∃ t, exec (.byte 0xFF#8) State.reset = .next t := by
  refine ⟨by decide, by decide, by decide, by decide, by decide, by decide, by decide, _, rfl⟩

/-- Both ends of the valid lengths. -/
theorem witness_FrameMetaStreamsTheMetadataSegment :
    ((withLength 1#17 []).mode = .idle ∧ 1 ≤ (withLength 1#17 []).length.toNat ∧
      (withLength 1#17 []).length.toNat ≤ 65536) ∧
    ((withLength 65536#17 []).mode = .idle ∧ 1 ≤ (withLength 65536#17 []).length.toNat ∧
      (withLength 65536#17 []).length.toNat ≤ 65536) := by decide

theorem witness_FrameProgStreamsTheProgramSegment :
    ((withLength 1#17 []).mode = .idle ∧ 1 ≤ (withLength 1#17 []).length.toNat ∧
      (withLength 1#17 []).length.toNat ≤ 65536) ∧
    ((withLength 65536#17 []).mode = .idle ∧ 1 ≤ (withLength 65536#17 []).length.toNat ∧
      (withLength 65536#17 []).length.toNat ≤ 65536) := by decide

theorem witness_EncodeStreamsBothSegmentsAndSilence :
    ((withLength 1#17 []).mode = .idle ∧ 1 ≤ (withLength 1#17 []).length.toNat ∧
      (withLength 1#17 []).length.toNat ≤ 65536) ∧
    ((withLength 65536#17 []).mode = .idle ∧ 1 ≤ (withLength 65536#17 []).length.toNat ∧
      (withLength 65536#17 []).length.toNat ≤ 65536) := by decide

theorem witness_ChecksumIsSeededXorOfDataBytes :
    [0x01#8, 0x02#8].Perm [0x02#8, 0x01#8] ∧ { Hidden.powerOn with stage := .payload }.stage = .payload ∧
    { Hidden.powerOn with stage := .footer }.stage = .footer ∧
    { Hidden.powerOn with stage := .leader }.stage ≠ .payload ∧ { Hidden.powerOn with stage := .leader }.stage ≠ .footer := by
  decide

theorem witness_SegmentBytesXorToZero : (1 ≤ 1 ∧ 1 ≤ 65536) ∧ (1 ≤ 65536 ∧ 65536 ≤ 65536) := by decide

/-- A buffer whose `n` bytes from bus address `a` on are all 0xFF. -/
def filled (a n : Nat) : Memory := (List.range' a n).map fun b => (b, 0xFF#8)

theorem filled_written (n : Nat) : ∀ a b, a ≤ b → b < a + n → (filled a n).written b = some 0xFF#8 := by
  induction n with
  | zero => intro a b h1 h2; omega
  | succ n ih =>
    intro a b h1 h2
    by_cases h : b = a
    · simp [filled, List.range', Memory.written, h]
    · have := ih (a + 1) b (by omega) (by omega)
      simpa [filled, List.range', Memory.written, h] using this

/-- The shortest and the longest stream's states. -/
theorem witness_EncodeStreamLengthIsBounded :
    (∃ s : State, s.len = 1 ∧ s.loadRun = false ∧ s.bufByte 0 = 0x00#8) ∧
    (∃ s : State, s.len = 65536 ∧ ∀ i < 65536, s.bufByte i = 0xFF#8) := by
  refine ⟨⟨{ State.reset with length := 1#17, buf := [(0x10000, 0x00#8)] }, by decide⟩,
    ⟨{ State.reset with length := 65536#17, buf := filled 0x10000 65536 }, by decide, fun i hi => ?_⟩⟩
  simp only [State.bufByte, State.byteAt, bufAddr, Config.bufBase]
  rw [filled_written 65536 65536 (65536 + i) (by omega) (by omega)]

theorem witness_FramersEqualTheirPrimitiveCommands :
    (1 ≤ (withLength 1#17 []).len ∧ (withLength 1#17 []).len ≤ 65536) ∧
    (1 ≤ (withLength 65536#17 []).len ∧ (withLength 65536#17 []).len ≤ 65536) := by decide

/-- Every command answers a next state from reset. -/
theorem witness_CommandAcceptFrame (i : Instr) : State.reset.mode = .idle ∧ ∃ t, exec i State.reset = .next t :=
  ⟨rfl, _, exec_eq_accept i State.reset⟩

theorem witness_CommandWhileBusyIsDropped : (busyWith [.sample 94] []).mode = .busy := rfl

theorem witness_StepRunsTheDecodedCommand :
    (idleWith [hostCMD 0x90000000#32]).env = hostCMD 0x90000000#32 :: [] ∧ decode 0x90000000#32 = .ok .encode := by decide

theorem witness_FetchWordIsRunByTheNextStep : decodeTableWord 32 0x1000AC44 = some (.tone .f770 44100) := by decide

theorem witness_StepKeepsTheConfiguration : ∃ t, step State.reset = .next t := ⟨_, rfl⟩

/-- With the last event and with more to come. -/
theorem witness_ReadySinkTakesTheHeadSample :
    ∀ rest : List Event, (busyWith (.sample 94 :: rest) [.stream true false]).mode = .busy ∧
      (busyWith (.sample 94 :: rest) [.stream true false]).pending = .sample 94 :: rest ∧
      (busyWith (.sample 94 :: rest) [.stream true false]).env = .stream true false :: [] :=
  fun _ => ⟨rfl, rfl, rfl⟩

/-- Levels driven now, and levels held from before. -/
theorem witness_WaitingSinkHoldsTheSample :
    (busyWith [.sample 94] [.stream false false]).mode = .busy ∧
    (busyWith [.sample 94] [.stream false false]).pending = .sample 94 :: [] ∧
    (busyWith [.sample 94] [.stream false false]).env = .stream false false :: [] ∧
    { busyWith [.sample 94] [] with sReady := false }.mode = .busy ∧
    { busyWith [.sample 94] [] with sReady := false }.pending = .sample 94 :: [] ∧
    { busyWith [.sample 94] [] with sReady := false }.env = [] ∧
    { busyWith [.sample 94] [] with sReady := false }.sReady = false ∧
    { busyWith [.sample 94] [] with sReady := false }.sinkErr = false := by decide

/-- A sample and a checksum point at the head, Idle, and a level held from before. -/
theorem witness_SinkErrIsSampledOnlyAtSamples :
    (∀ l : List Event, (busyWith l [.stream true true]).env = .stream true true :: [] ∧
      (busyWith l [.stream true true]).mode = .busy ∧ (busyWith l [.stream true true]).pending = l) ∧
    (idleWith [.stream false true]).mode = .idle ∧
    { busyWith [.sample 94] [] with sinkErr := true }.env = [] ∧
    { busyWith [.sample 94] [] with sinkErr := true }.sinkErr = true :=
  ⟨fun _ => ⟨rfl, rfl, rfl⟩, rfl, rfl, rfl⟩

theorem witness_ReadySinkStreamsTheWholeCommand :
    (busyWith [.sample 94, .setChk .metaSeg 0xAA#8, .sample 0] []).mode = .busy ∧
    (busyWith [.sample 94, .setChk .metaSeg 0xAA#8, .sample 0] []).pending ≠ [] ∧
    (busyWith [.sample 94, .setChk .metaSeg 0xAA#8, .sample 0] []).env = [] ∧
    (busyWith [.sample 94, .setChk .metaSeg 0xAA#8, .sample 0] []).sReady = true ∧
    (busyWith [.sample 94, .setChk .metaSeg 0xAA#8, .sample 0] []).sinkErr = false := by decide

/-- A Busy state with a checksum point pending satisfies the invariant. -/
theorem busy_inv (env : List EnvEvent) : (busyWith [.sample 94, .setChk .metaSeg 0xAA#8, .sample (-86)] env).Inv where
  busy_iff_pending := by simp [busyWith]
  busy_flags := by simp [busyWith, State.reset]
  done_or_err := by simp [busyWith, State.reset]
  done_code := by simp [busyWith, State.reset]
  err_code := by simp [busyWith, State.reset]
  code_le := by simp [busyWith, State.reset]
  sample_range := by simp [busyWith]
  last_sample := by simp [busyWith]
  count_bound := by simp [busyWith, State.reset]
  buf_wf := by simp [busyWith, State.reset, Memory.wf, Memory.wfAbove]

/-- Three productive sink steps for three events, one of them a failing sink's, with waiting steps between. -/
theorem witness_EveryCommandTerminatesUnderAFairSink :
    ∃ s : State, s.Inv ∧ s.mode = .busy ∧ (∀ e ∈ s.env, ∃ ready err, e = .stream ready err) ∧
      s.pending.length ≤ (s.env.filter fun e => decide (e ≠ .stream false false)).length :=
  ⟨busyWith [.sample 94, .setChk .metaSeg 0xAA#8, .sample (-86)]
      [.stream true false, .stream false false, .stream true false, .stream false true],
    busy_inv _, rfl, by simp [busyWith], by decide⟩

theorem witness_StreamIsAlwaysAPrefixOfItsCommand :
    ∃ (base s t : State) (l taken : List Event), s.Inv ∧ s.mode = .busy ∧ l = taken ++ s.pending ∧ taken ≠ [] ∧
      Streamed base taken s ∧ (∀ sched, s.env ≠ .rst :: sched) ∧ step s = .next t :=
  ⟨State.reset, { busyWith [.sample 94, .setChk .metaSeg 0xAA#8, .sample (-86)] [.stream true false] with
      sunk := [0x00#8], sampleCount := 1#32 }, _,
    [.sample 0, .sample 94, .setChk .metaSeg 0xAA#8, .sample (-86)], [.sample 0],
    ⟨by simp [busyWith], by simp [busyWith, State.reset], by simp [busyWith, State.reset], by simp [busyWith, State.reset],
      by simp [busyWith, State.reset], by simp [busyWith, State.reset], by simp [busyWith], by simp [busyWith],
      by simp [busyWith], by simp [busyWith, State.reset, Memory.wf, Memory.wfAbove]⟩,
    rfl, rfl, by decide, ⟨by decide, by decide, rfl, rfl⟩, by simp [busyWith], rfl⟩

theorem witness_OnlyTransfersReachTheSink :
    ∃ t, step (busyWith [.sample 94] [.stream true false]) = .next t ∧ t.sunk ≠ [] := ⟨_, rfl, by decide⟩

theorem witness_ChecksumIsWrittenOnlyAtItsPoint :
    (∃ t, step (busyWith [.setChk .metaSeg 0xAA#8, .sample 0] []) = .next t ∧ t.metaChk ≠ State.reset.metaChk) ∧
    (∃ t, step (busyWith [.setChk .progSeg 0xFF#8, .sample 0] []) = .next t ∧ t.progChk ≠ State.reset.progChk) :=
  ⟨⟨_, rfl, by decide⟩, ⟨_, rfl, by decide⟩⟩

/-- The three ways a command ends: the last transfer, an abort, a reset. -/
theorem witness_OnlyTerminationOrResetEndsACommand :
    ∀ e ∈ [EnvEvent.stream true false, .stream true true, .rst],
      (busyWith [.sample 94] [e]).mode = .busy ∧ (after (busyWith [.sample 94] [e])).mode = .idle := by decide

theorem witness_RegisterReadsReturnTheirFields :
    ∀ a ∈ [0x00#17, 0x04#17, 0x08#17, 0x0C#17, 0x10#17, 0x14#17], (idleWith [hostRD a]).env = hostRD a :: [] := fun _ _ => rfl

/-- Values that agree in a register's fields and differ in its reserved bits. -/
theorem witness_ReservedOffsetsAndFieldsReadZeroIgnoreWrites :
    (idleWith [hostRD 0x18#17]).env = hostRD 0x18#17 :: [] ∧
    (idleWith [hostWR 0x1C#17 0xFFFFFFFF#32]).env = hostWR 0x1C#17 0xFFFFFFFF#32 :: [] ∧
    (0xFFFFFFFF#32).extractLsb' 0 8 = (0x000000FF#32).extractLsb' 0 8 ∧
    (0xFFFFFFFF#32).extractLsb' 0 17 = (0x0001FFFF#32).extractLsb' 0 17 ∧
    (0xFFFFFFFF#32).extractLsb' 0 2 = (0x00000003#32).extractLsb' 0 2 := by decide

theorem witness_StatusWriteClearsBitsWrittenAsOne :
    (idleWith [hostWR 0x04#17 0x0000000E#32]).env = hostWR 0x04#17 0x0000000E#32 :: [] := rfl

theorem witness_WwbIsStickyUntilClearedOrReset :
    (∀ e ∈ [EnvEvent.rst, hostWR 0x04#17 0x00000008#32], { idleWith [e] with wwb := true }.wwb = true ∧
      (after { idleWith [e] with wwb := true }).wwb = false) := by decide

theorem witness_LengthAndConfigWritesReadBack :
    (idleWith [hostWR 0x08#17 0xFFFFFFFF#32, hostRD 0x08#17]).mode = .idle ∧
    (idleWith [hostWR 0x08#17 0xFFFFFFFF#32, hostRD 0x08#17]).env = hostWR 0x08#17 0xFFFFFFFF#32 :: hostRD 0x08#17 :: [] ∧
    (idleWith [hostWR 0x0C#17 0xFFFFFFFF#32, hostRD 0x0C#17]).env = hostWR 0x0C#17 0xFFFFFFFF#32 :: hostRD 0x0C#17 :: [] := by
  decide

/-- A transaction for each clause: dropped, performed, ignored, a read. -/
theorem witness_WritesWhileBusyAreDroppedAndSetWwb :
    (∀ tx : BusTx, (busyWith [.sample 94] [.bus tx]).mode = .busy ∧ (busyWith [.sample 94] [.bus tx]).env = .bus tx :: []) ∧
    (0x00#17 ∈ [0x00#17, 0x08#17, 0x0C#17]) ∧ 0x10000 ≤ (0x10000#17).toNat ∧
    (0x10000 ≤ (0x1FFFC#17).toNat ∧ (0x1FFFC#17).toNat % 4 = 0) ∧ (0x1C#17 ∈ [0x10#17, 0x14#17, 0x18#17, 0x1C#17]) ∧
    (⟨0x04#17, 4, false, 0#32⟩ : BusTx).write = false := by
  exact ⟨fun _ => ⟨rfl, rfl⟩, by decide⟩

/-- Each case of rule R54 at its boundary addresses, and accesses just outside them that answer OKAY. -/
theorem witness_UnsupportedTransactionsGetErrorAndChangeNothing :
    (∀ tx : BusTx, (idleWith [.bus tx]).env = .bus tx :: []) ∧
    (0x00020 ≤ (0x00020#17).toNat ∧ (0x0FFFF#17).toNat ≤ 0x0FFFF) ∧ (0x1F#17).toNat < 0x20 ∧
    ((0x10000 ≤ (0x10001#17).toNat) ∧ (0x10001#17).toNat % 4 ≠ 0) ∧ (2 ≠ 1 ∧ 2 ≠ 4) ∧
    (∀ tx ∈ [(⟨0x1C#17, 4, false, 0#32⟩ : BusTx), ⟨0x10000#17, 4, true, 0#32⟩, ⟨0x1FFFF#17, 1, false, 0#32⟩],
      ¬((0x00020 ≤ tx.addr.toNat ∧ tx.addr.toNat ≤ 0x0FFFF) ∨
        (tx.addr.toNat < 0x20 ∧ (tx.size ≠ 4 ∨ tx.addr.toNat % 4 ≠ 0)) ∨
        (0x10000 ≤ tx.addr.toNat ∧ tx.size = 4 ∧ tx.addr.toNat % 4 ≠ 0) ∨ (tx.size ≠ 1 ∧ tx.size ≠ 4))) := by
  exact ⟨fun _ => rfl, by decide⟩

/-- The first and the last byte and word of the buffer. -/
theorem witness_BufferAccessesAreLittleEndian :
    (∀ e : EnvEvent, (idleWith [e]).mode = .idle ∧ (idleWith [e]).env = e :: []) ∧
    0x10000 ≤ (0x10000#17).toNat ∧ (0x10000#17).toNat % 4 = 0 ∧ 0x10000 ≤ (0x1FFFC#17).toNat ∧ (0x1FFFC#17).toNat % 4 = 0 ∧
    0x10000 ≤ (0x1FFFF#17).toNat :=
  ⟨fun _ => ⟨rfl, rfl⟩, by decide⟩

theorem witness_ReadsHaveNoSideEffect :
    ∀ tx : BusTx, (idleWith [.bus tx]).env = .bus tx :: [] ∧ (⟨0x04#17, 4, false, 0#32⟩ : BusTx).write = false :=
  fun _ => ⟨rfl, rfl⟩

theorem witness_InputsAreFrozenWhileBusy :
    ∃ t, (busyWith [.sample 94] [hostWR 0x08#17 5#32]).mode = .busy ∧
      (∀ sched, (busyWith [.sample 94] [hostWR 0x08#17 5#32]).env ≠ .rst :: sched) ∧
      step (busyWith [.sample 94] [hostWR 0x08#17 5#32]) = .next t :=
  ⟨_, rfl, by simp [busyWith, hostWR], rfl⟩

theorem witness_InterleavedTransactionsLeaveTheStreamAlone :
    ∃ (s t u : State) (sched : List EnvEvent), (∀ e ∈ sched, e ≠ .rst ∧ ∀ w, e ≠ hostCMD w) ∧
      Host.Core.run core sched.length { s with env := sched } = .next t ∧
      Host.Core.run core
        (sched.filter fun e => match e with | .stream _ _ => true | .bus _ => false | .rst => false).length
        { s with env := sched.filter fun e => match e with | .stream _ _ => true | .bus _ => false | .rst => false } =
          .next u ∧ t.sunk ≠ [] :=
  ⟨busyWith [.sample 94, .sample 0] [], _, _,
    [hostRD 0x14#17, .stream true false, hostWR 0x08#17 5#32, .stream true false],
    by simp [hostRD, hostWR, hostCMD], rfl, rfl, by decide⟩

/-- Each way irq is cleared. -/
theorem witness_IrqFollowsEnableAndTermination :
    { idleWith [] with irqEn := true, done := true }.irq = true ∧
    (∃ t, step { idleWith [hostWR 0x04#17 0x00000006#32] with irqEn := true, err := true } = .next t) ∧
    (∃ t, step { idleWith [hostWR 0x0C#17 0x00000001#32] with irqEn := true, done := true } = .next t) ∧
    (0x00000001#32).getLsbD 1 = false ∧
    (∃ t, exec (.bit true) { State.reset with irqEn := true, done := true } = .next t ∧ t.mode = .busy) :=
  ⟨by decide, ⟨_, rfl⟩, ⟨_, rfl⟩, by decide, ⟨_, rfl, by decide⟩⟩

theorem witness_ResetPutsEveryRegisterInItsResetValue :
    (busyWith [.sample 94] [.rst]).env = .rst :: [] := rfl

theorem witness_IdleRunsNothingUntilCmdIsWritten :
    ∃ t, (idleWith [.stream true false]).mode = .idle ∧ (idleWith [.stream true false]).pending = [] ∧
      (∀ w sched, (idleWith [.stream true false]).env ≠ hostCMD w :: sched) ∧
      step (idleWith [.stream true false]) = .next t :=
  ⟨_, rfl, rfl, by simp [idleWith, hostCMD, hostWR], rfl⟩

theorem witness_EveryStepKeepsTheInvariant :
    ∃ t, (busyWith [.sample 94, .setChk .metaSeg 0xAA#8, .sample (-86)] [.stream true false]).Inv ∧
      step (busyWith [.sample 94, .setChk .metaSeg 0xAA#8, .sample (-86)] [.stream true false]) = .next t :=
  ⟨_, busy_inv _, rfl⟩

/-- The machine after it accepted HALF 2500, HIGH: two samples to come, the generator at the first. -/
theorem witness_HiddenGeneratorRefinesPending :
    ∃ s t : State, s.Inv ∧ s.mode = .busy ∧ s.HiddenAgrees ∧ s.pending = [.sample 0, .sample 94] ∧ step s = .next t :=
  ⟨{ busyWith [.sample 0, .sample 94] [.stream true false] with hidden := startHidden State.reset (.half .f2500 .high) }, _,
    ⟨by simp [busyWith], by simp [busyWith, State.reset], by simp [busyWith, State.reset], by simp [busyWith, State.reset],
      by simp [busyWith, State.reset], by simp [busyWith, State.reset], by simp [busyWith], by simp [busyWith],
      by simp [busyWith, State.reset], by simp [busyWith, State.reset, Memory.wf, Memory.wfAbove]⟩,
    rfl, fun _ => ⟨⟨by decide, by decide, by decide, by decide, by decide, by decide⟩, by decide⟩, rfl, rfl⟩

end Sys2Proof.Tests
end

/-! ## Register transactions

What a host transaction on the register window does in one step (10_state.md rules R22, R28 to R35), and which bits of a
written word matter. -/

namespace Sys2Proof.Machine

/-! ### Register reads and writes as steps -/

/-- What a register reads as does not depend on the schedule, the step count or the last answer. -/
@[simp] theorem readRegister_beginStep (s : State) (rest : List EnvEvent) (r : Reg) :
    readRegister (s.beginStep rest) r = readRegister s r := by
  cases r <;> rfl

/-- An aligned 4-byte read in the register window reads the register there (rule R28). -/
theorem classify_read_register {a : BusAddr} {v : Word} (hlt : a.toNat < 0x20) (hal : a.toNat % 4 = 0) :
    classify ⟨a, 4, false, v⟩ = .access (.readReg (regAt a.toNat)) := by
  simp [classify, Config.regWindowEnd, hlt, hal]

/-- An aligned 4-byte write in the register window writes the register there (rule R28). -/
theorem classify_write_register {a : BusAddr} {v : Word} (hlt : a.toNat < 0x20) (hal : a.toNat % 4 = 0) :
    classify ⟨a, 4, true, v⟩ = writeRequest v (regAt a.toNat) := by
  simp [classify, Config.regWindowEnd, hlt, hal]

/-- A step at which the host reads a register, in either mode, answers OKAY with the register's value. -/
theorem step_hostRD_register {s : State} {rest : List EnvEvent} {a : BusAddr} (hlt : a.toNat < 0x20) (hal : a.toNat % 4 = 0)
    (he : s.env = hostRD a :: rest) :
    step s = .next ((s.beginStep rest).respond .okay (some (readRegister s (regAt a.toNat)))) := by
  rw [step_access he (classify_read_register hlt hal), perform, readRegister_beginStep]

/-- A step at which the host writes a register other than CMD performs the access the write asks for. -/
theorem step_hostWR_register {s : State} {rest : List EnvEvent} {a : BusAddr} {v : Word} {x : Access} (hlt : a.toNat < 0x20)
    (hal : a.toNat % 4 = 0) (hx : writeRequest v (regAt a.toNat) = .access x) (he : s.env = hostWR a v :: rest) :
    step s = .next (perform (s.beginStep rest) x) :=
  step_access he ((classify_write_register hlt hal).trans hx)

/-! ### Which bits of a written word matter -/

/-- Words with equal low `n` bits have equal bits below `n`. -/
theorem getLsbD_eq_of_low_eq {n i : Nat} {v w : Word} (h : v.extractLsb' 0 n = w.extractLsb' 0 n) (hi : i < n) :
    v.getLsbD i = w.getLsbD i := by
  simpa [hi] using congrArg (fun x => x.getLsbD i) h

/-- A STATUS write looks at bits 7:0 only (rule R30). -/
theorem writeStatus_eq_of_low_eq {v w : Word} (h : v.extractLsb' 0 8 = w.extractLsb' 0 8) (s : State) :
    s.writeStatus v = s.writeStatus w := by
  simp only [State.writeStatus, getLsbD_eq_of_low_eq h (show 1 < 8 by decide), getLsbD_eq_of_low_eq h (show 2 < 8 by decide),
    getLsbD_eq_of_low_eq h (show 3 < 8 by decide)]

/-- A LENGTH write looks at bits 16:0 only (rule R31). -/
theorem setLength_eq_of_low_eq {v w : Word} (h : v.extractLsb' 0 17 = w.extractLsb' 0 17) (s : State) :
    s.setLength v = s.setLength w := by
  rw [State.setLength, State.setLength, h]

/-- A CONFIG write looks at bits 1:0 only (rule R32). -/
theorem setConfig_eq_of_low_eq {v w : Word} (h : v.extractLsb' 0 2 = w.extractLsb' 0 2) (s : State) :
    s.setConfig v = s.setConfig w := by
  simp only [State.setConfig, getLsbD_eq_of_low_eq h (show 0 < 2 by decide), getLsbD_eq_of_low_eq h (show 1 < 2 by decide)]

/-- Two values written to one register lead to the same state if the accesses they ask for do the same. -/
theorem step_hostWR_eq_of_perform_eq {a : BusAddr} {v w : Word} {x y : Access} (hlt : a.toNat < 0x20) (hal : a.toNat % 4 = 0)
    (hx : writeRequest v (regAt a.toNat) = .access x) (hy : writeRequest w (regAt a.toNat) = .access y)
    (hxy : ∀ s, perform s x = perform s y) (s : State) (rest : List EnvEvent) :
    step { s with env := hostWR a v :: rest } = step { s with env := hostWR a w :: rest } :=
  calc step { s with env := hostWR a v :: rest }
      _ = .next (perform (s.beginStep rest) x) := step_hostWR_register hlt hal hx rfl
      _ = .next (perform (s.beginStep rest) y) := by rw [hxy]
      _ = step { s with env := hostWR a w :: rest } :=
        (step_hostWR_register (s := { s with env := hostWR a w :: rest }) hlt hal hy rfl).symm

/-! ### Reserved fields -/

/-- Bits 31:8 of STATUS read 0 (rule R30). -/
theorem readRegister_status_reserved (s : State) : (readRegister s .status).extractLsb' 8 24 = 0#24 := by
  have hlow : readRegister s .status = 0#24 ++ (s.errCode ++ BitVec.ofBool s.wwb ++ BitVec.ofBool s.err ++
      BitVec.ofBool s.done ++ BitVec.ofBool s.busyBit) := by
    simp only [readRegister, State.statusWord, BitVec.append_assoc, BitVec.cast_eq]
  rw [hlow, BitVec.extractLsb'_append_eq_left]

/-- Bits 31:17 of LENGTH read 0 (rule R31). -/
theorem readRegister_length_reserved (s : State) : (readRegister s .length).extractLsb' 17 15 = 0#15 := by
  ext i hi
  simp [readRegister]

/-- Bits 31:2 of CONFIG read 0 (rule R32). -/
theorem readRegister_config_reserved (s : State) : (readRegister s .config).extractLsb' 2 30 = 0#30 := by
  rw [readRegister, BitVec.append_assoc, BitVec.cast_eq, BitVec.extractLsb'_append_eq_left]

/-- Bits 31:16 of CHECKSUM read 0 (rule R33). -/
theorem readRegister_checksum_reserved (s : State) : (readRegister s .checksum).extractLsb' 16 16 = 0#16 := by
  rw [readRegister, BitVec.append_assoc, BitVec.cast_eq, BitVec.extractLsb'_append_eq_left]

/-! ### The obligation -/

/-- A read of a reserved offset answers OKAY and 0, a write answers OKAY; neither changes anything else (rule R35). -/
theorem step_reserved_offset (s : State) (rest : List EnvEvent) (v : Word) {a : BusAddr} (ha : a ∈ [0x18#17, 0x1C#17]) :
    (s.env = hostRD a :: rest → step s = .next ((s.beginStep rest).respond .okay (some 0#32))) ∧
    (s.env = hostWR a v :: rest → step s = .next ((s.beginStep rest).respond .okay none)) := by
  obtain rfl | rfl : a = 0x18#17 ∨ a = 0x1C#17 := by simpa using ha
  all_goals
    exact ⟨step_hostRD_register (by decide) rfl, step_hostWR_register (x := .writeIgnored) (by decide) rfl rfl⟩

/-- Settles O44, from the steps at the reserved offsets, the registers' reserved fields and the bits each write looks at. -/
theorem reservedOffsetsAndFieldsReadZeroIgnoreWrites : Obligations.ReservedOffsetsAndFieldsReadZeroIgnoreWrites := by
  unfold Obligations.ReservedOffsetsAndFieldsReadZeroIgnoreWrites
  refine ⟨fun s rest v a ha => step_reserved_offset s rest v ha, fun s => ⟨readRegister_status_reserved s,
    readRegister_length_reserved s, readRegister_config_reserved s, readRegister_checksum_reserved s⟩,
    fun s rest v w => ⟨fun h => ?status, fun h => ?length, fun h => ?config, ?checksum⟩⟩
  case status =>
    exact step_hostWR_eq_of_perform_eq (x := .writeStatus v) (y := .writeStatus w) (by decide) rfl rfl rfl
      (fun s => by rw [perform, perform, writeStatus_eq_of_low_eq h]) s rest
  case length =>
    exact step_hostWR_eq_of_perform_eq (x := .writeLength v) (y := .writeLength w) (by decide) rfl rfl rfl
      (fun s => by rw [perform, perform, setLength_eq_of_low_eq h]) s rest
  case config =>
    exact step_hostWR_eq_of_perform_eq (x := .writeConfig v) (y := .writeConfig w) (by decide) rfl rfl rfl
      (fun s => by rw [perform, perform, setConfig_eq_of_low_eq h]) s rest
  case checksum =>
    exact step_hostWR_eq_of_perform_eq (x := .writeIgnored) (y := .writeIgnored) (by decide) rfl rfl rfl
      (fun _ => rfl) s rest

end Sys2Proof.Machine

/-! ## The irq output

10_state.md rule R26: what holds irq at 0, and that each way of clearing it reaches such a state. -/

namespace Sys2Proof.Machine

/-- irq = IRQ_EN & (DONE | ERR), as a proposition (rule R26). -/
theorem irq_iff (s : State) : s.irq = true ↔ s.irqEn = true ∧ (s.done = true ∨ s.err = true) := by
  simp [State.irq]

/-- A masked irq is 0. -/
theorem irq_eq_false_of_irqEn {s : State} (h : s.irqEn = false) : s.irq = false := by
  simp [State.irq, h]

/-- irq is 0 when neither DONE nor ERR is set. -/
theorem irq_eq_false_of_done_err {s : State} (hd : s.done = false) (he : s.err = false) : s.irq = false := by
  simp [State.irq, hd, he]

/-- A CONFIG write while Idle sets CONFIG (rule R32). -/
theorem perform_writeConfig_idle {s : State} (h : s.mode = .idle) (v : Word) :
    perform s (.writeConfig v) = (s.setConfig v).respond .okay none := by
  simp [perform, whileIdle, h]

/-- An accept while Idle that streams has cleared DONE and ERR (rule R37). -/
theorem accept_streams_status {s : State} {i : Instr} {r : Except CmdError (List Event)} (h : s.mode = .idle)
    (hb : (accept i r s).mode = .busy) : (accept i r s).done = false ∧ (accept i r s).err = false := by
  rcases r with e | l
  · rw [accept_error h] at hb
    simp [failedState, h] at hb
  · rw [accept_ok h] at hb ⊢
    cases l with
    | nil => simp [acceptedState, h] at hb
    | cons e es => simp [acceptedState]

/-- Settles O54: a STATUS write of 0x6 and a streaming accept leave DONE and ERR at 0, a CONFIG write with bit 1 clear leaves
IRQ_EN at 0. -/
theorem irqFollowsEnableAndTermination : Obligations.IrqFollowsEnableAndTermination := by
  unfold Obligations.IrqFollowsEnableAndTermination
  refine fun s => ⟨irq_iff s, fun rest t henv hstep => ?status, fun rest t v hm henv hv hstep => ?config,
    fun i t hm hexec hb => ?accept⟩
  case status =>
    rw [step_hostWR_register (x := .writeStatus 0x00000006#32) (by decide) rfl rfl henv] at hstep
    obtain rfl := Host.Outcome.next.inj hstep
    exact irq_eq_false_of_done_err (by simp [perform, clearedByOne]) (by simp [perform, clearedByOne])
  case config =>
    rw [step_hostWR_register (x := .writeConfig v) (by decide) rfl rfl henv, perform_writeConfig_idle (by simpa using hm)]
      at hstep
    obtain rfl := Host.Outcome.next.inj hstep
    exact irq_eq_false_of_irqEn (by simpa using hv)
  case accept =>
    rw [exec_eq_accept] at hexec
    obtain rfl := Host.Outcome.next.inj hexec
    obtain ⟨hdone, herr⟩ := accept_streams_status hm hb
    exact irq_eq_false_of_done_err hdone herr

end Sys2Proof.Machine

/-! ## Buffer transactions

20_memory.md rule R53: which access a 1-byte or an aligned 4-byte transaction at a buffer address asks for, what it answers, and
what a write while Idle stores. -/

namespace Sys2Proof.Machine

/-! ### Buffer accesses as transactions -/

/-- A buffer address lies neither in the register window nor in the hole above it (rule R51). -/
theorem not_below_buffer {a : BusAddr} (ha : 0x10000 ≤ a.toNat) :
    ¬ a.toNat < Config.regWindowEnd ∧ ¬ a.toNat < Config.bufBase := by
  rw [Config.regWindowEnd, Config.bufBase]
  omega

/-- A 1-byte transaction at a buffer address reads or writes the byte there (rules R51, R54). -/
theorem classify_buffer_byte {a : BusAddr} (ha : 0x10000 ≤ a.toNat) (write : Bool) (v : Word) :
    classify ⟨a, 1, write, v⟩ =
      .access (if write then .writeByte a.toNat (v.extractLsb' 0 8) else .readByte a.toNat) := by
  obtain ⟨hreg, hhole⟩ := not_below_buffer ha
  cases write <;> simp [classify, hreg, hhole]

/-- An aligned 4-byte transaction at a buffer address reads or writes the word there (rules R51, R54). -/
theorem classify_buffer_word {a : BusAddr} (ha : 0x10000 ≤ a.toNat) (hal : a.toNat % 4 = 0) (write : Bool) (v : Word) :
    classify ⟨a, 4, write, v⟩ = .access (if write then .writeWord a.toNat v else .readWord a.toNat) := by
  obtain ⟨hreg, hhole⟩ := not_below_buffer ha
  cases write <;> simp [classify, hreg, hhole, hal]

/-! ### What a buffer read returns -/

/-- A byte reads the same at the start of a step. -/
@[simp] theorem byteAt_beginStep (s : State) (rest : List EnvEvent) (a : Nat) : (s.beginStep rest).byteAt a = s.byteAt a :=
  byteAt_congr rfl rfl a

/-- A 1-byte read answers OKAY with the byte, its upper 24 bits 0. -/
theorem perform_readByte (s : State) (a : Nat) :
    perform s (.readByte a) = s.respond .okay (some (0#24 ++ s.byteAt a)) := by
  rw [perform, BitVec.setWidth_eq_append (by decide)]
  rfl

/-- A 4-byte read answers OKAY with the four bytes, the one at the lowest address least significant. -/
theorem perform_readWord (s : State) (a : Nat) :
    perform s (.readWord a) =
      s.respond .okay (some (s.byteAt (a + 3) ++ s.byteAt (a + 2) ++ s.byteAt (a + 1) ++ s.byteAt a)) := rfl

/-! ### What a buffer write while Idle does -/

/-- A 1-byte write while Idle stores the byte and answers OKAY. -/
theorem perform_writeByte_idle {s : State} (h : s.mode = .idle) (a : Nat) (v : Byte) :
    perform s (.writeByte a v) = (s.storeByte a v).respond .okay none := by
  simp [perform, whileIdle, h]

/-- A 4-byte write while Idle stores the word and answers OKAY. -/
theorem perform_writeWord_idle {s : State} (h : s.mode = .idle) (a : Nat) (v : Word) :
    perform s (.writeWord a v) = (s.storeWord a v).respond .okay none := by
  simp [perform, whileIdle, h]

/-! ### The obligation -/

/-- Settles O50, from what each of the four buffer accesses performs and the laws of a stored byte and a stored word. -/
theorem bufferAccessesAreLittleEndian : Obligations.BufferAccessesAreLittleEndian := by
  unfold Obligations.BufferAccessesAreLittleEndian
  refine fun s rest a ha => ⟨fun henv => ?readByte, fun hal henv => ?readWord, fun v hm henv => ?writeByte,
    fun v hm hal henv => ?writeWord⟩
  case readByte =>
    rw [step_access henv (classify_buffer_byte ha false _), if_neg Bool.false_ne_true, perform_readByte, byteAt_beginStep]
  case readWord =>
    rw [step_access henv (classify_buffer_word ha hal false _), if_neg Bool.false_ne_true, perform_readWord]
    simp only [byteAt_beginStep]
  case writeByte =>
    refine ⟨(s.storeByte a.toNat (v.extractLsb' 0 8)).buf, ?_, fun b => byteAt_storeByte s a.toNat b _⟩
    rw [step_access henv (classify_buffer_byte ha true v), if_pos rfl, perform_writeByte_idle (s := s.beginStep rest) hm]
    rfl
  case writeWord =>
    refine ⟨(s.storeWord a.toNat v).buf, ?_, fun b => byteAt_storeWord s a.toNat b v⟩
    rw [step_access henv (classify_buffer_word ha hal true v), if_pos rfl, perform_writeWord_idle (s := s.beginStep rest) hm]
    rfl

end Sys2Proof.Machine

/-! ## The opcode map and the illegal words

30_encoding.md rules R71, R75 to R77: when a word matches a row, what the decoder does on the words of a row's OP and on the other
words, and which words are illegal. -/

namespace Sys2Proof.Machine

/-! ### The rows of the opcode map -/

/-- The bits the format of an OP marks reserved: the lowest one and their number (rule R71). -/
def reservedRange (op : BitVec 4) : Nat × Nat :=
  if op = 0x1#4 then (24, 2)
  else if op = 0x2#4 then (0, 26)
  else if op = 0x3#4 then (0, 25)
  else if op = 0x4#4 then (24, 4)
  else if op = 0x5#4 then (1, 27)
  else if op = 0x6#4 then (8, 20)
  else (0, 28)

/-- The reserved bits of a word, read by the format of its OP. -/
def reservedField (w : Word) (op : BitVec 4) : BitVec (reservedRange op).2 :=
  w.extractLsb' (reservedRange op).1 (reservedRange op).2

/-- A row's match is its OP above 28 zeros. -/
theorem row_matchWord : ∀ r ∈ opcodeMap, r.matchWord = r.op ++ 0#28 := by decide

/-- A row's mask covers OP and the reserved bits. -/
theorem row_mask : ∀ r ∈ opcodeMap, ∀ i < 32, r.mask.getLsbD i =
    decide (28 ≤ i ∨ (reservedRange r.op).1 ≤ i ∧ i < (reservedRange r.op).1 + (reservedRange r.op).2) := by decide

/-- Every reserved bit lies below OP. -/
theorem reservedRange_le (op : BitVec 4) : (reservedRange op).1 + (reservedRange op).2 ≤ 28 := by
  revert op
  decide

/-- The rows have distinct OPs. -/
theorem row_eq_of_op_eq : ∀ r ∈ opcodeMap, ∀ q ∈ opcodeMap, r.op = q.op → r = q := by decide

/-- The rows have distinct mnemonics. -/
theorem row_eq_of_mnemonic_eq : ∀ r ∈ opcodeMap, ∀ q ∈ opcodeMap, r.mnemonic = q.mnemonic → r = q := by decide

/-! ### When a word matches a row -/

/-- The bits of an OP above 28 zeros. -/
theorem getLsbD_op_append_zero (op : BitVec 4) (i : Nat) :
    (op ++ 0#28 : BitVec (4 + 28)).getLsbD i = (decide (28 ≤ i) && op.getLsbD (i - 28)) := by
  rw [BitVec.getLsbD_append]
  by_cases hi : i < 28
  · simp [hi]
  · simp [hi, Nat.le_of_not_lt hi]

/-- Under a mask of OP and a range of bits below it, a word reads as `op` above zeros exactly when its OP is `op` and the range
is clear. -/
theorem masked_eq_iff {w mask : Word} {op : BitVec 4} {lo n : Nat} (hle : lo + n ≤ 28)
    (hmask : ∀ i < 32, mask.getLsbD i = decide (28 ≤ i ∨ lo ≤ i ∧ i < lo + n)) :
    w &&& mask = op ++ 0#28 ↔ opField w = op ∧ w.extractLsb' lo n = 0#n := by
  constructor
  · intro h
    have hbit : ∀ i < 32, (w.getLsbD i && decide (28 ≤ i ∨ lo ≤ i ∧ i < lo + n)) =
        (decide (28 ≤ i) && op.getLsbD (i - 28)) := by
      intro i hi
      rw [← hmask i hi, ← BitVec.getLsbD_and, h]
      exact getLsbD_op_append_zero op i
    constructor <;> refine BitVec.eq_of_getLsbD_eq fun i hi => ?_
    · simpa [opField, hi] using hbit (28 + i) (by omega)
    · have hlow : ¬ 28 ≤ lo + i := by omega
      simpa [hi, hlow] using hbit (lo + i) (by omega)
  · rintro ⟨rfl, hz⟩
    refine BitVec.eq_of_getLsbD_eq fun i hi => ?_
    rw [BitVec.getLsbD_and, hmask i hi]
    refine Eq.trans ?_ (getLsbD_op_append_zero (opField w) i).symm
    by_cases hop : 28 ≤ i
    · simp [opField, hop, show i - 28 < 4 by omega]
    · by_cases hrange : lo ≤ i ∧ i < lo + n
      · have hclear : w.getLsbD i = false := by
          simpa [hrange.1, show i - lo < n by omega] using congrArg (BitVec.getLsbD · (i - lo)) hz
        simp [hop, hclear]
      · simp [hop, hrange]

/-- A word matches a row exactly when it has the row's OP and its format's reserved bits are 0 (rules R71, R75). -/
theorem row_match_iff {r : OpcodeRow} (hr : r ∈ opcodeMap) (w : Word) :
    w &&& r.mask = r.matchWord ↔ opField w = r.op ∧ reservedField w r.op = 0#_ := by
  rw [row_matchWord r hr]
  exact masked_eq_iff (reservedRange_le r.op) (row_mask r hr)

/-- No word matches two rows (rule R75). -/
theorem row_unique {r q : OpcodeRow} (hr : r ∈ opcodeMap) (hq : q ∈ opcodeMap) {w : Word}
    (h : w &&& r.mask = r.matchWord) (h' : w &&& q.mask = q.matchWord) : r = q :=
  row_eq_of_op_eq r hr q hq (((row_match_iff hr w).mp h).1.symm.trans ((row_match_iff hq w).mp h').1)

/-! ### What the decoder does -/

/-- A row's check passes exactly on the words that match. -/
theorem decodeRow_eq_ok_iff {w m k : Word} {i j : Instr} : decodeRow w m k i = .ok j ↔ w &&& k = m ∧ i = j := by
  unfold decodeRow
  split <;> simp [*]

/-- A word with a row's OP is decoded by the check against that row, to a command of the row. -/
theorem decode_of_op {r : OpcodeRow} (hr : r ∈ opcodeMap) {w : Word} (hop : opField w = r.op) :
    ∃ i, mnemonicOf i = r.mnemonic ∧ decode w = decodeRow w r.matchWord r.mask i := by
  simp only [opcodeMap, List.mem_cons, List.not_mem_nil, or_false] at hr
  rcases hr with rfl | rfl | rfl | rfl | rfl | rfl | rfl | rfl | rfl <;>
    (simp only [decode, hop]; exact ⟨_, rfl, rfl⟩)

/-- A word whose OP no row has is refused. -/
theorem decode_of_no_op {w : Word} (h : ∀ r ∈ opcodeMap, opField w ≠ r.op) : decode w = .error .illegalOpcode := by
  simp only [opcodeMap, List.forall_mem_cons] at h
  obtain ⟨h1, h2, h3, h4, h5, h6, h7, h8, h9, -⟩ := h
  simp only [decode, h1, h2, h3, h4, h5, h6, h7, h8, h9, if_false]

/-- A word that matches a row decodes to a command of the row. -/
theorem decode_of_match {r : OpcodeRow} (hr : r ∈ opcodeMap) {w : Word} (h : w &&& r.mask = r.matchWord) :
    ∃ i, decode w = .ok i ∧ mnemonicOf i = r.mnemonic := by
  obtain ⟨i, hi, hd⟩ := decode_of_op hr ((row_match_iff hr w).mp h).1
  exact ⟨i, hd.trans (decodeRow_eq_ok_iff.mpr ⟨h, rfl⟩), hi⟩

/-- A word that decodes matches the row of its command. -/
theorem match_of_decode {w : Word} {i : Instr} (h : decode w = .ok i) :
    ∃ r ∈ opcodeMap, w &&& r.mask = r.matchWord ∧ mnemonicOf i = r.mnemonic := by
  by_cases hrow : ∃ r ∈ opcodeMap, opField w = r.op
  · obtain ⟨r, hr, hop⟩ := hrow
    obtain ⟨j, hj, hd⟩ := decode_of_op hr hop
    obtain ⟨hm, rfl⟩ := decodeRow_eq_ok_iff.mp (hd.symm.trans h)
    exact ⟨r, hr, hm, hj⟩
  · push Not at hrow
    rw [decode_of_no_op hrow] at h
    cases h

/-- The decoder refuses a word exactly when it matches no row (rule R76). -/
theorem decode_refuses_iff (w : Word) :
    (∀ i, decode w ≠ .ok i) ↔ ∀ r ∈ opcodeMap, w &&& r.mask ≠ r.matchWord := by
  constructor
  · intro h r hr hm
    obtain ⟨i, hd, -⟩ := decode_of_match hr hm
    exact h i hd
  · intro h i hd
    obtain ⟨r, hr, hm, -⟩ := match_of_decode hd
    exact h r hr hm

/-- Settles O3, from the one row a word can match and the decoder's check against that row. -/
theorem wordEncodesRowExactlyWhenMaskMatches : Obligations.WordEncodesRowExactlyWhenMaskMatches := by
  unfold Obligations.WordEncodesRowExactlyWhenMaskMatches
  refine ⟨by decide, fun w r hr => ⟨?_, decode_of_match hr⟩, fun w r hr q hq => row_unique hr hq,
    fun w => (decode_refuses_iff w).mpr⟩
  rintro ⟨i, hd, hi⟩
  obtain ⟨q, hq, hm, hiq⟩ := match_of_decode hd
  rwa [row_eq_of_mnemonic_eq r hr q hq (hi.symm.trans hiq)]

/-! ### The illegal words -/

/-- A word with a row's OP is illegal exactly when a reserved bit of its format is 1 (rule R77). -/
theorem illegal_iff_of_op {r : OpcodeRow} (hr : r ∈ opcodeMap) {w : Word} (hop : opField w = r.op) :
    Illegal w ↔ reservedField w r.op ≠ 0#_ := by
  simp only [opcodeMap, List.mem_cons, List.not_mem_nil, or_false] at hr
  rcases hr with rfl | rfl | rfl | rfl | rfl | rfl | rfl | rfl | rfl <;>
    (rw [opField] at hop; simp [Illegal, hop, reservedField, reservedRange])

/-- A word whose OP no row has is illegal (rule R77). -/
theorem illegal_of_no_op {w : Word} (h : ∀ r ∈ opcodeMap, opField w ≠ r.op) : Illegal w := by
  have hop : ∀ op : BitVec 4, (∀ r ∈ opcodeMap, op ≠ r.op) → op = 0x0#4 ∨ 0xA#4 ≤ op := by decide
  exact .inl (hop _ h)

/-- The illegal words are the ones that match no row. -/
theorem illegal_iff_no_match (w : Word) : Illegal w ↔ ∀ r ∈ opcodeMap, w &&& r.mask ≠ r.matchWord := by
  by_cases hrow : ∃ r ∈ opcodeMap, opField w = r.op
  · obtain ⟨r, hr, hop⟩ := hrow
    rw [illegal_iff_of_op hr hop]
    constructor
    · intro h q hq hm
      obtain ⟨hopq, hz⟩ := (row_match_iff hq w).mp hm
      obtain rfl := row_eq_of_op_eq r hr q hq (hop.symm.trans hopq)
      exact h hz
    · intro h hz
      exact h r hr ((row_match_iff hr w).mpr ⟨hop, hz⟩)
  · push Not at hrow
    exact iff_of_true (illegal_of_no_op hrow) fun r hr hm => hrow r hr ((row_match_iff hr w).mp hm).1

/-- The illegal words are the ones the decoder refuses (rules R76, R77). -/
theorem illegal_iff_decode_refuses (w : Word) : Illegal w ↔ ∀ i, decode w ≠ .ok i :=
  (illegal_iff_no_match w).trans (decode_refuses_iff w).symm

/-- The step that accepts an illegal word while Idle ends the command with code 4 (rule R77). -/
theorem step_illegal_idle {s : State} {w : Word} {rest : List EnvEvent} (hm : s.mode = .idle)
    (henv : s.env = hostCMD w :: rest) (hw : Illegal w) :
    step s = .next (failedState ((s.beginStep rest).respond .okay none) 4#4) := by
  have hrefuse := (illegal_iff_decode_refuses w).mp hw
  cases hd : decode w with
  | ok i => exact absurd hd (hrefuse i)
  | error e => rw [step_illegal henv hd, acceptIllegal_idle (by simpa using hm)]

/-- Settles O6, from the row each legal OP has and the accept of a word that matches none. -/
theorem illegalWordTerminatesAtAcceptWithCode4 : Obligations.IllegalWordTerminatesAtAcceptWithCode4 := by
  unfold Obligations.IllegalWordTerminatesAtAcceptWithCode4
  exact ⟨illegal_of_no_op (by decide), illegal_iff_decode_refuses, fun s w rest => step_illegal_idle⟩

end Sys2Proof.Machine

/-! ## The sample tables against the real sine

40_synth.md rules R101, R105: every ROM entry is the truncation toward zero of AMPLITUDE times a real sine. Every angle that occurs
is a multiple of one angle, 2π/2205. An exact Gaussian integer approximates the turn by this angle, a power of it is taken for
each phase of a table, and the kernel compares the imaginary parts of these powers with the table, which the error stays too
small to spoil. -/

namespace Sys2Proof.Machine

/-! ### A rational turn close to the turn by 2π/2205 -/

/-- The angle of which all phases of the four tables are multiples: the frequencies are multiples of 5 Hz, and 11025 / 5 = 2205. -/
noncomputable def fineAngle : ℝ := 2 * Real.pi / 2205

/-- The turn by `fineAngle`, scaled by `fineScale`, with cosine and sine cut off after nine decimal places. -/
def fineTurn : GaussianInt := ⟨999995940, 2849513⟩

/-- The scale of `fineTurn`. -/
def fineScale : Int := 10 ^ 9

/-- In the unit disc the distance of n-th powers is at most n times the distance. -/
theorem norm_pow_sub_pow_le {u v : ℂ} (hu : ‖u‖ ≤ 1) (hv : ‖v‖ ≤ 1) (n : Nat) : ‖u ^ n - v ^ n‖ ≤ n * ‖u - v‖ := by
  induction n with
  | zero => simp
  | succ n ih =>
    calc ‖u ^ (n + 1) - v ^ (n + 1)‖ = ‖u ^ n * (u - v) + (u ^ n - v ^ n) * v‖ := by ring_nf
      _ ≤ ‖u‖ ^ n * ‖u - v‖ + ‖u ^ n - v ^ n‖ * ‖v‖ := by simpa using norm_add_le (u ^ n * (u - v)) ((u ^ n - v ^ n) * v)
      _ ≤ 1 * ‖u - v‖ + n * ‖u - v‖ * 1 := by
        gcongr
        exact pow_le_one₀ (norm_nonneg u) hu
      _ = (n + 1 : Nat) * ‖u - v‖ := by push_cast; ring

/-- Decimal bounds, from the library's 20 digits of π. -/
theorem fineAngle_bounds : 0.0028495171461 ≤ fineAngle ∧ fineAngle ≤ 0.0028495171462 := by
  have hlo := Real.pi_gt_d20
  have hhi := Real.pi_lt_d20
  rw [fineAngle]
  constructor <;> linarith

/-- The cosine, by two terms of its series. -/
theorem cos_fineAngle_near : |999995940 / 10 ^ 9 - Real.cos fineAngle| ≤ 1.35 / 10 ^ 10 := by
  obtain ⟨hlo, hhi⟩ := fineAngle_bounds
  have hcos := Real.cos_bound (x := fineAngle) (by rw [abs_le]; constructor <;> linarith)
  rw [abs_of_nonneg (by linarith : 0 ≤ fineAngle)] at hcos
  have hsq_lo : (0.0028495171461 : ℝ) ^ 2 ≤ fineAngle ^ 2 := by gcongr
  have hsq_hi : fineAngle ^ 2 ≤ 0.0028495171462 ^ 2 := by gcongr
  have herr : fineAngle ^ 4 ≤ 0.0028495171462 ^ 4 := by gcongr
  rw [abs_le] at hcos ⊢
  norm_num at *
  constructor <;> linarith

/-- The sine, by two terms of its series. -/
theorem sin_fineAngle_near : |2849513 / 10 ^ 9 - Real.sin fineAngle| ≤ 2.95 / 10 ^ 10 := by
  obtain ⟨hlo, hhi⟩ := fineAngle_bounds
  have hsin := Real.sin_bound (x := fineAngle) (by rw [abs_le]; constructor <;> linarith)
  rw [abs_of_nonneg (by linarith : 0 ≤ fineAngle)] at hsin
  have hcube_lo : (0.0028495171461 : ℝ) ^ 3 ≤ fineAngle ^ 3 := by gcongr
  have hcube_hi : fineAngle ^ 3 ≤ 0.0028495171462 ^ 3 := by gcongr
  have herr : fineAngle ^ 5 ≤ 0.0028495171462 ^ 5 := by gcongr
  rw [abs_le] at hsin ⊢
  norm_num at *
  constructor <;> linarith

/-- The rational turn by its parts. -/
theorem fineTurn_div_fineScale : (fineTurn : ℂ) / (fineScale : ℂ) = ⟨999995940 / 10 ^ 9, 2849513 / 10 ^ 9⟩ := by
  apply Complex.ext <;> simp [fineTurn, fineScale, GaussianInt.toComplex_def] <;> norm_num

/-- The rational turn does not expand. -/
theorem norm_fineTurn_le : ‖(fineTurn : ℂ) / (fineScale : ℂ)‖ ≤ 1 := by
  rw [fineTurn_div_fineScale, ← sq_le_one_iff₀ (norm_nonneg _), Complex.sq_norm, Complex.normSq_mk]
  norm_num

/-- The rational turn is close to the real one. -/
theorem fineTurn_near : ‖(fineTurn : ℂ) / (fineScale : ℂ) - Complex.exp (fineAngle * Complex.I)‖ ≤ 4.3 / 10 ^ 10 := by
  have hcos := cos_fineAngle_near
  have hsin := sin_fineAngle_near
  rw [fineTurn_div_fineScale]
  refine (Complex.norm_le_abs_re_add_abs_im _).trans ?_
  rw [Complex.sub_re, Complex.sub_im, Complex.exp_ofReal_mul_I_re, Complex.exp_ofReal_mul_I_im]
  linarith

/-- Over a whole period, the sine of a multiple of the angle is the imaginary part of the rational turn's power up to 10⁻⁶. -/
theorem sin_mul_fineAngle_near {j : Nat} (hj : j ≤ 2205) :
    |Real.sin (j * fineAngle) - (fineTurn ^ j).im / fineScale ^ j| ≤ 1 / 10 ^ 6 := by
  have hpow := norm_pow_sub_pow_le norm_fineTurn_le (Complex.norm_exp_ofReal_mul_I fineAngle).le j
  have him : (((fineTurn : ℂ) / (fineScale : ℂ)) ^ j - Complex.exp (fineAngle * Complex.I) ^ j).im =
      (fineTurn ^ j).im / fineScale ^ j - Real.sin (j * fineAngle) := by
    have hscale : (fineScale : ℂ) ^ j = ((fineScale ^ j : ℝ) : ℂ) := by push_cast; rfl
    rw [Complex.sub_im, div_pow, ← map_pow, hscale, Complex.div_ofReal_im, ← GaussianInt.intCast_im, ← Complex.exp_nat_mul,
      ← Complex.exp_ofReal_mul_I_im]
    push_cast
    ring_nf
  have hj' : (j : ℝ) ≤ 2205 := by exact_mod_cast hj
  rw [abs_sub_comm, ← him]
  calc |(((fineTurn : ℂ) / (fineScale : ℂ)) ^ j - Complex.exp (fineAngle * Complex.I) ^ j).im|
      ≤ j * ‖(fineTurn : ℂ) / (fineScale : ℂ) - Complex.exp (fineAngle * Complex.I)‖ := (Complex.abs_im_le_norm _).trans hpow
    _ ≤ 2205 * (4.3 / 10 ^ 10) := by gcongr; exact fineTurn_near
    _ ≤ 1 / 10 ^ 6 := by norm_num

/-! ### Truncation toward zero -/

/-- A number strictly within 1 of an integer, and not nearer to zero than it, truncates to it. -/
theorem isTrunc_of_between {x : ℝ} {v : Int} (hlo : ((v - 1 : Int) : ℝ) < x) (hhi : x < ((v + 1 : Int) : ℝ))
    (hpos : 0 < v → (v : ℝ) ≤ x) (hneg : v < 0 → x ≤ (v : ℝ)) : IsTrunc x v := by
  push_cast at hlo hhi
  constructor <;> intro hx
  · refine (Int.floor_eq_iff.mpr ⟨?_, hhi⟩).symm
    rcases le_or_gt v 0 with hv | hv
    · exact le_trans (by exact_mod_cast hv) hx
    · exact hpos hv
  · refine (Int.ceil_eq_iff.mpr ⟨hlo, ?_⟩).symm
    rcases le_or_gt 0 v with hv | hv
    · exact hx.trans (by exact_mod_cast hv)
    · exact hneg hv

/-- Truncation is odd. -/
theorem isTrunc_neg {x : ℝ} {v : Int} (h : IsTrunc x v) : IsTrunc (-x) (-v) := by
  obtain ⟨hfloor, hceil⟩ := h
  constructor <;> intro hx
  · rw [hceil (by linarith), Int.floor_neg]
  · rw [hfloor (by linarith), Int.ceil_neg]

/-- A polarity's sign can be taken out of the truncation (rule R101). -/
theorem isTrunc_mul_polaritySign {x : ℝ} {v : Int} (p : Polarity) (h : IsTrunc x v) :
    IsTrunc (x * (polaritySign p : Int)) (polaritySign p * v) := by
  cases p with
  | high => simpa [polaritySign] using h
  | low => simpa [polaritySign] using isTrunc_neg h

/-- Every number between `lo / den` and `hi / den` truncates to `v`, as a test in the integers. -/
def truncatesTo (lo hi den v : Int) : Bool :=
  decide ((v - 1) * den < lo ∧ hi < (v + 1) * den ∧ (0 < v → v * den ≤ lo) ∧ (v < 0 → hi ≤ v * den))

/-- What the integer test says about a real number. -/
theorem isTrunc_of_truncatesTo {lo hi den v : Int} {x : ℝ} (h : truncatesTo lo hi den v = true) (hden : 0 < den)
    (hlo : lo ≤ x * den) (hhi : x * den ≤ hi) : IsTrunc x v := by
  obtain ⟨hbelow, habove, hpos, hneg⟩ := of_decide_eq_true h
  have hden' : (0 : ℝ) < den := by exact_mod_cast hden
  refine isTrunc_of_between (lt_of_mul_lt_mul_right ?_ hden'.le) (lt_of_mul_lt_mul_right ?_ hden'.le)
    (fun hv => le_of_mul_le_mul_right ?_ hden') (fun hv => le_of_mul_le_mul_right ?_ hden')
  · exact lt_of_lt_of_le (by exact_mod_cast hbelow) hlo
  · exact lt_of_le_of_lt hhi (by exact_mod_cast habove)
  · exact le_trans (by exact_mod_cast hpos hv) hlo
  · exact hhi.trans (by exact_mod_cast hneg hv)

/-- Four times AMPLITUDE, an integer for both values of the parameter. -/
def amplitudeQuarters : Amplitude → Int
  | .threeQuartersOf127 => 381
  | .threeQuartersOf128 => 384

/-- AMPLITUDE in quarters. -/
theorem amplitude_value_eq (amp : Amplitude) : ((amp.value : ℚ) : ℝ) = (amplitudeQuarters amp : ℝ) / 4 := by
  cases amp <;> norm_num [Amplitude.value, amplitudeQuarters]

/-- AMPLITUDE is not negative. -/
theorem amplitudeQuarters_nonneg (amp : Amplitude) : 0 ≤ amplitudeQuarters amp := by cases amp <;> decide

/-- AMPLITUDE times every number within 10⁻⁶ of `y / d` truncates to `v`, as a test in the integers. -/
def scaledTruncatesTo (amp : Amplitude) (y d v : Int) : Bool :=
  truncatesTo (amplitudeQuarters amp * (10 ^ 6 * y - d)) (amplitudeQuarters amp * (10 ^ 6 * y + d)) (4 * 10 ^ 6 * d) v

/-- What the integer test says about a real number close to `y / d`. -/
theorem isTrunc_of_scaledTruncatesTo {amp : Amplitude} {y d v : Int} {s : ℝ} (hd : 0 < d)
    (h : scaledTruncatesTo amp y d v = true) (hs : |s - y / d| ≤ 1 / 10 ^ 6) : IsTrunc ((amp.value : ℚ) * s) v := by
  have hd' : (0 : ℝ) < d := by exact_mod_cast hd
  have hq : (0 : ℝ) ≤ amplitudeQuarters amp := by exact_mod_cast amplitudeQuarters_nonneg amp
  have hnear : |10 ^ 6 * d * s - 10 ^ 6 * y| ≤ (d : ℝ) := by
    calc |10 ^ 6 * d * s - 10 ^ 6 * y| = |10 ^ 6 * d * (s - y / d)| := by congr 1; field_simp
      _ = 10 ^ 6 * d * |s - y / d| := by rw [abs_mul, abs_of_pos (by positivity)]
      _ ≤ 10 ^ 6 * d * (1 / 10 ^ 6) := by gcongr
      _ = d := by ring
  obtain ⟨hlo, hhi⟩ := abs_le.mp hnear
  have hx : ((amp.value : ℚ) : ℝ) * s * (4 * 10 ^ 6 * d : Int) = amplitudeQuarters amp * (10 ^ 6 * d * s) := by
    rw [amplitude_value_eq]
    push_cast
    ring
  refine isTrunc_of_truncatesTo h (by omega) ?_ ?_ <;> (rw [hx]; push_cast; gcongr; linarith)

/-! ### The tables in the order of their phases -/

/-- One phase of a table, 2π/P_f, in multiples of `fineAngle`. -/
def phaseStep (f : Freq) : Nat := 2205 / romPeriod f

/-- The inverse of p_f modulo P_f: it leads from a phase back to the entry that has it. -/
def phaseUnstride : Freq → Nat
  | .f770 => 43
  | .f1000 => 430
  | .f2000 => 215
  | .f2500 => 172

/-- A period's phases make one full turn. -/
theorem phaseStep_mul_romPeriod (f : Freq) : phaseStep f * romPeriod f = 2205 := by cases f <;> rfl

/-- The frequency by p_f (rule R105). -/
theorem freqHz_eq (f : Freq) : freqHz f = 5 * (phaseStep f * romStride f) := by cases f <;> rfl

/-- The two are inverse modulo P_f. -/
theorem phaseUnstride_mul_romStride (f : Freq) : phaseUnstride f * romStride f % romPeriod f = 1 := by cases f <;> rfl

/-- The table's entry whose angle is 2πm/P_f. -/
def phaseEntry (amp : Amplitude) (f : Freq) (m : Nat) : Int := romEntry amp f (phaseUnstride f * m % romPeriod f)

/-- Sample k has phase k·p_f modulo P_f. -/
theorem phaseEntry_stride (amp : Amplitude) (f : Freq) (k : Nat) :
    phaseEntry amp f (romStride f * k % romPeriod f) = romEntry amp f (k % romPeriod f) := by
  rw [phaseEntry, Nat.mul_mod_mod, ← Nat.mul_assoc, Nat.mul_mod, phaseUnstride_mul_romStride, Nat.one_mul, Nat.mod_mod]

/-- The angle of sample k, reduced to the first turn, is that of its phase. -/
theorem sin_sample_eq (f : Freq) (k : Nat) : Real.sin (2 * Real.pi * (freqHz f : ℝ) * (k : ℝ) / (11025 : ℝ)) =
    Real.sin ((phaseStep f * (romStride f * k % romPeriod f) : Nat) * fineAngle) := by
  have hmod (j : Nat) : Real.sin (j * fineAngle) = Real.sin ((j % 2205 : Nat) * fineAngle) := by
    rw [← Real.sin_add_nat_mul_two_pi ((j % 2205 : Nat) * fineAngle) (j / 2205)]
    conv_lhs => rw [← Nat.mod_add_div j 2205]
    congr 1
    rw [fineAngle]
    push_cast
    ring
  rw [← Nat.mul_mod_mul_left, phaseStep_mul_romPeriod, ← hmod, freqHz_eq, fineAngle]
  congr 1
  push_cast
  ring

/-! ### The comparison with the tables -/

/-- The test of `n` phases of a table from phase `m` on, where `z / d` is the rational turn to the power of phase `m`. -/
def sweepPhases (amp : Amplitude) (f : Freq) : Nat → Nat → GaussianInt → Int → Bool
  | 0, _, _, _ => true
  | n + 1, m, z, d => scaledTruncatesTo amp z.im d (phaseEntry amp f m) &&
      sweepPhases amp f n (m + 1) (z * fineTurn ^ phaseStep f) (d * fineScale ^ phaseStep f)

/-- A sweep that passes has tested each of its phases. -/
theorem scaledTruncatesTo_of_sweepPhases {amp : Amplitude} {f : Freq} {n m : Nat}
    (h : sweepPhases amp f n m (fineTurn ^ (phaseStep f * m)) (fineScale ^ (phaseStep f * m)) = true) {i : Nat} (hm : m ≤ i)
    (hi : i < m + n) :
    scaledTruncatesTo amp (fineTurn ^ (phaseStep f * i)).im (fineScale ^ (phaseStep f * i)) (phaseEntry amp f i) = true := by
  induction n generalizing m with
  | zero => omega
  | succ n ih =>
    obtain ⟨hhead, htail⟩ := Bool.and_eq_true_iff.mp h
    rw [← pow_add, ← pow_add, ← Nat.mul_succ] at htail
    rcases hm.eq_or_lt with rfl | hlt
    · exact hhead
    · exact ih htail hlt (by omega)

/-- All eight tables pass over their whole period. -/
theorem sweepPhases_rom (amp : Amplitude) (f : Freq) : sweepPhases amp f (romPeriod f) 0 1 1 = true := by
  cases amp <;> cases f <;> decide +kernel

/-- The entry of each phase is the truncated sine of the phase. -/
theorem isTrunc_phaseEntry (amp : Amplitude) {f : Freq} {m : Nat} (hm : m < romPeriod f) :
    IsTrunc ((amp.value : ℚ) * Real.sin ((phaseStep f * m : Nat) * fineAngle)) (phaseEntry amp f m) := by
  have htest := scaledTruncatesTo_of_sweepPhases (m := 0) (sweepPhases_rom amp f) m.zero_le (by omega)
  have hturn : phaseStep f * m ≤ 2205 := phaseStep_mul_romPeriod f ▸ Nat.mul_le_mul_left _ hm.le
  refine isTrunc_of_scaledTruncatesTo (pow_pos (by decide) _) htest ?_
  simpa using sin_mul_fineAngle_near hturn

/-- Sample k without its sign is the truncated sine (rules R101, R105). -/
theorem isTrunc_romEntry (amp : Amplitude) (f : Freq) (k : Nat) :
    IsTrunc ((amp.value : ℚ) * Real.sin (2 * Real.pi * (freqHz f : ℝ) * (k : ℝ) / (11025 : ℝ)))
      (romEntry amp f (k % romPeriod f)) := by
  have hperiod : 0 < romPeriod f := by cases f <;> decide
  rw [sin_sample_eq, ← phaseEntry_stride]
  exact isTrunc_phaseEntry amp (Nat.mod_lt _ hperiod)

/-- Settles O7, from the comparison of every table entry with a power of the rational turn, and the truncation's oddness. -/
theorem sampleIsTruncatedSine : Obligations.SampleIsTruncatedSine := by
  unfold Obligations.SampleIsTruncatedSine
  refine ⟨rfl, fun amp f p k => ⟨?_, romEntry amp f (k % romPeriod f), isTrunc_romEntry amp f k, rfl⟩,
    fun _ _ => ⟨rfl, rfl⟩, fun _ _ => rfl, rfl, rfl⟩
  rw [mul_right_comm, mul_comm (Real.sin _)]
  exact isTrunc_mul_polaritySign p (isTrunc_romEntry amp f k)

end Sys2Proof.Machine

/-! ## The FSK modulator

41_fsk.md rules R120 and R123: the accept of BIT and of BYTE while Idle, and no checksum point among a byte's events. -/

namespace Sys2Proof.Machine

/-- A command accepted while Idle whose event list has no length error gives the accepted state (rules R37, R76). -/
theorem exec_idle_ok {s : State} {i : Instr} {l : List Event} (hm : s.mode = .idle) (hl : commandEvents s i = .ok l) :
    exec i s = .next (acceptedState s i l) := by
  rw [exec_eq_accept, hl, accept_ok hm]

/-- BIT's events are the samples of its bit (rule R120). -/
theorem commandEvents_bit (s : State) (v : Bool) : commandEvents s (.bit v) = .ok (listBit s.cfg.amplitude v) :=
  congrArg Except.ok (bitEvents_eq s.cfg.amplitude v)

/-- BYTE's events are its bits, most significant first (rule R123). -/
theorem commandEvents_byte (s : State) (d : Byte) : commandEvents s (.byte d) = .ok (listByte s.cfg.amplitude d) :=
  congrArg Except.ok (byteEvents_eq s.cfg.amplitude d)

/-- A tone is samples only (rule R108). -/
theorem setChk_notMem_listTone (amp : Amplitude) (f : Freq) (n : Nat) (k : Seg) (c : Byte) :
    Event.setChk k c ∉ listTone amp f n := by
  simp [listTone]

/-- A bit is samples only (rule R120). -/
theorem setChk_notMem_listBit (amp : Amplitude) (v : Bool) (k : Seg) (c : Byte) : Event.setChk k c ∉ listBit amp v := by
  cases v <;> exact setChk_notMem_listTone amp _ _ k c

/-- A byte computes no checksum (rule R123). -/
theorem setChk_notMem_listByte (amp : Amplitude) (d : Byte) (k : Seg) (c : Byte) : Event.setChk k c ∉ listByte amp d := by
  simp [listByte, setChk_notMem_listBit]

/-- Settles O14, from the events of a bit and the accept while Idle. -/
theorem bitStreamsOneCycle : Obligations.BitStreamsOneCycle := by
  unfold Obligations.BitStreamsOneCycle
  exact fun s hm => ⟨exec_idle_ok hm (commandEvents_bit s true), exec_idle_ok hm (commandEvents_bit s false)⟩

/-- Settles O15, from the events of a byte, the accept while Idle and the bits being samples only. -/
theorem byteStreamsBitsMsbFirst : Obligations.ByteStreamsBitsMsbFirst := by
  unfold Obligations.ByteStreamsBitsMsbFirst
  exact fun s d hm => ⟨exec_idle_ok hm (commandEvents_byte s d), setChk_notMem_listByte s.cfg.amplitude d⟩

end Sys2Proof.Machine

/-! ## The framer

42_framer.md rules R131, R132 and R140: LENGTH is checked at the accept of the framer commands and of no other command, and
what every segment starts and ends with. -/

namespace Sys2Proof.Machine

/-! ### A segment's start and end -/

/-- A segment starts with the leader and the sync (rule R132). -/
theorem segmentEvents_eq_leader_sync_append (amp : Amplitude) (k : Seg) (data : List Byte) :
    segmentEvents amp k data =
      listTone amp .f770 44100 ++ listHalf amp .f2500 1 2 ++ listHalf amp .f2000 (-1) 2 ++
        (data.flatMap (listByte amp) ++ [Event.setChk k (checksum data)] ++ listByte amp (checksum data) ++
          listBit amp true) := by
  simp only [segment_eq, listSegment, List.append_assoc]

/-- The footer is 11 samples of the 1000 Hz cycle (rule R140). -/
theorem listBit_true (amp : Amplitude) : listBit amp true = listTone amp .f1000 11 := if_pos rfl

/-- A tone has the samples it asks for (rule R108). -/
theorem listTone_length (amp : Amplitude) (f : Freq) (n : Nat) : (listTone amp f n).length = n := by
  simp [listTone]

/-- Settles O21, from the spec's list of a segment, whose last part is the footer. -/
theorem everySegmentEndsWithTheFooter : Obligations.EverySegmentEndsWithTheFooter := by
  unfold Obligations.EverySegmentEndsWithTheFooter
  intro amp k data
  refine ⟨listTone_length amp .f1000 11, ?_⟩
  rw [segment_eq, listSegment, listBit_true]
  exact ⟨_, rfl⟩

/-- Settles O22, from the spec's list of a segment and the first entries of the tables for 381/4. -/
theorem everySegmentStartsWithLeaderAndSync : Obligations.EverySegmentStartsWithLeaderAndSync := by
  unfold Obligations.EverySegmentStartsWithLeaderAndSync
  exact ⟨fun amp k data => ⟨_, segmentEvents_eq_leader_sync_append amp k data⟩, by decide, by decide⟩

/-! ### LENGTH at the accept -/

/-- The commands whose accept checks LENGTH (rule R131). -/
abbrev framerCommands : List Instr := [.frameMeta, .frameProg, .encode]

/-- A segment is never empty: it holds its checksum point. -/
theorem segment_ne_nil (s : State) (k : Seg) : s.segment k ≠ [] := by
  simp [State.segment, segment_eq, listSegment]

/-- A framer command checks LENGTH and then streams at least one event. -/
theorem commandEvents_framer {i : Instr} (hi : i ∈ framerCommands) (s : State) :
    ∃ l, l ≠ [] ∧ commandEvents s i = validated s l := by
  simp only [List.mem_cons, List.not_mem_nil, or_false] at hi
  obtain rfl | rfl | rfl := hi
  · exact ⟨_, segment_ne_nil s .metaSeg, rfl⟩
  · exact ⟨_, segment_ne_nil s .progSeg, rfl⟩
  · exact ⟨encodeEvents s, by simp [encodeEvents, segment_ne_nil], rfl⟩

/-- The accept of a framer command while Idle, by the three ranges of L (rule R131). -/
theorem exec_framer_idle {s : State} {i : Instr} (hm : s.mode = .idle) (hi : i ∈ framerCommands) :
    ∃ l, l ≠ [] ∧ exec i s = .next (if s.len = 0 then failedState s 1#4 else if 65536 < s.len then failedState s 2#4
      else acceptedState s i l) := by
  obtain ⟨l, hne, hl⟩ := commandEvents_framer hi s
  refine ⟨l, hne, ?_⟩
  rw [exec_eq_accept, hl, validated_eq]
  split_ifs
  · rw [accept_error hm, errorCode]
  · rw [accept_error hm, errorCode]
  · rw [accept_ok hm]

/-- The accept of a list that is not empty is Busy with no error (10_state.md rule R37). -/
theorem acceptedState_status (s : State) (i : Instr) {l : List Event} (hne : l ≠ []) :
    (acceptedState s i l).mode = .busy ∧ (acceptedState s i l).err = false ∧ (acceptedState s i l).errCode = 0#4 := by
  simp [acceptedState, hne]

/-! ### The commands that do not read LENGTH -/

/-- The CTE is Idle or Busy (10_state.md rule R37). -/
theorem mode_idle_or_busy (s : State) : s.mode = .idle ∨ s.mode = .busy := by
  cases s.mode
  · exact .inl rfl
  · exact .inr rfl

/-- The events of a command that is no framer command do not depend on LENGTH. -/
theorem commandEvents_length_update {i : Instr} (hi : i ∉ framerCommands) (s : State) (l : BitVec 17) :
    commandEvents { s with length := l } i = commandEvents s i := by
  cases i with
  | frameMeta | frameProg | encode => simp at hi
  | tone | cycle | half | silence | bit | byte => rfl

/-- The hidden generator's start for a command that is no framer command does not depend on LENGTH. -/
theorem startHidden_length_update {i : Instr} (hi : i ∉ framerCommands) (s : State) (l : BitVec 17) :
    startHidden { s with length := l } i = startHidden s i := by
  cases i with
  | frameMeta | frameProg | encode => simp at hi
  | tone | cycle | half | silence | bit | byte => rfl

/-- The accepted state keeps whatever LENGTH holds, and does not read it where the hidden generator's start does not. -/
theorem acceptedState_length_update {i : Instr} {s : State} {l : BitVec 17}
    (hh : startHidden { s with length := l } i = startHidden s i) (events : List Event) :
    acceptedState { s with length := l } i events = { acceptedState s i events with length := l } := by
  cases events with
  | nil => rfl
  | cons e es => simp only [acceptedState, reduceCtorEq, if_false, hh]

/-- The same of every accept, in either mode, of an event list or of an error (10_state.md rule R37). -/
theorem accept_length_update {i : Instr} {s : State} {l : BitVec 17}
    (hh : startHidden { s with length := l } i = startHidden s i) (r : Except CmdError (List Event)) :
    accept i r { s with length := l } = { accept i r s with length := l } := by
  rcases mode_idle_or_busy s with hm | hm
  · cases r with
    | error e => rw [accept_error hm, accept_error (by exact hm)]; rfl
    | ok events => rw [accept_ok hm, accept_ok (by exact hm), acceptedState_length_update hh]
  · rw [accept_busy hm, accept_busy (by exact hm)]; rfl

/-- Settles O17: a framer command by the three ranges of L; of any other command neither the events nor the accept read L. -/
theorem lengthIsValidatedAtAcceptByFramersOnly : Obligations.LengthIsValidatedAtAcceptByFramersOnly := by
  unfold Obligations.LengthIsValidatedAtAcceptByFramersOnly
  refine ⟨fun s hm i hi => ?framer, fun s t l i hi hexec => ?other⟩
  case framer =>
    obtain ⟨events, hne, hexec⟩ := exec_framer_idle hm hi
    rw [State.len] at hexec
    refine ⟨fun hzero => ?_, fun hlong => ?_, fun hmin hmax => ⟨_, ?_, acceptedState_status s i hne⟩⟩
    · rw [hexec, if_pos hzero]
    · rw [hexec, if_neg (by omega), if_pos hlong]
    · rw [hexec, if_neg (by omega), if_neg (by omega)]
  case other =>
    rw [exec_eq_accept] at hexec
    obtain rfl := Host.Outcome.next.inj hexec
    rw [exec_eq_accept, commandEvents_length_update hi, accept_length_update (startHidden_length_update hi s l)]

end Sys2Proof.Machine

/-! ## How a command ends

60_exceptions.md rule R160: of all that a step can do while Busy, only a stream step at the last event or at a failing sink, and a
reset, make the CTE Idle. -/

namespace Sys2Proof.Machine

/-- Retiring an event while Busy makes the CTE Idle only if it was the last one, and then DONE is 1 (rule R154). -/
theorem retire_ends_busy {s : State} {pending rest : List Event} {e : Event} (hp : pending = e :: rest) (hm : s.mode = .busy)
    (hidle : (s.retire rest).mode = .idle) : ∃ e, pending = [e] ∧ (s.retire rest).done = true := by
  have hnil : rest = [] := by
    by_contra hne
    rw [State.retire_mode, if_neg hne, hm] at hidle
    cases hidle
  exact ⟨e, by rw [hp, hnil], by rw [State.retire_done, if_pos hnil]⟩

/-- A stream step that ends a command processed its last event or aborted it at a failing sink (rules R154, R155). -/
theorem streamStep_ends_busy {s : State} (hm : s.mode = .busy) (hidle : (streamStep s).mode = .idle) :
    (∃ e, s.pending = [e] ∧ (streamStep s).done = true) ∨
    (∃ v rest, s.pending = .sample v :: rest ∧ s.sinkErr = true ∧ streamStep s = s.raiseError .sink) := by
  have hstays : streamStep s ≠ s := by
    intro h
    rw [h, hm] at hidle
    cases hidle
  obtain ⟨-, h⟩ | ⟨-, -, h⟩ | ⟨k, c, rest, -, hp, h⟩ | ⟨v, rest, -, hp, he, h⟩ | ⟨v, rest, -, hp, -, -, h⟩ |
    ⟨v, rest, -, -, -, -, h⟩ := streamStep_cases s
  · exact absurd h hstays
  · exact absurd h hstays
  · rw [h] at hidle ⊢
    exact .inl (retire_ends_busy hp (by simpa using hm) hidle)
  · exact .inr ⟨v, rest, hp, he, h⟩
  · rw [h] at hidle ⊢
    exact .inl (retire_ends_busy hp (by simpa using hm) hidle)
  · exact absurd h hstays

/-- While Busy the CTE leaves Busy by a stream step or a reset only: a CMD write is dropped, no other bus access changes the
mode. -/
theorem step_ends_busy {s t : State} (hm : s.mode = .busy) (hstep : step s = .next t) (hidle : t.mode = .idle) :
    (∃ rest r e, t = streamStep ((s.beginStep rest).driveSink r e)) ∨ (∃ rest, s.env = .rst :: rest) := by
  have hkept : t.mode ≠ s.mode := by rw [hm, hidle]; decide
  obtain ⟨rest, r, e, -, h⟩ | ⟨rest, henv, -⟩ | ⟨rest, w, i, -, -, h⟩ | ⟨rest, w, e, -, -, h⟩ |
    ⟨rest, tx, a, -, -, h⟩ := step_cases hstep
  · exact .inl ⟨rest, r, e, h⟩
  · exact .inr ⟨rest, henv⟩
  · rw [accept_busy (by simpa using hm)] at h
    exact absurd (by simp [h]) hkept
  · rw [acceptIllegal_busy (by simpa using hm)] at h
    exact absurd (by simp [h]) hkept
  · obtain ⟨-, hmode, -⟩ := perform_frame (s.beginStep rest) a
    exact absurd (by rw [h, hmode, State.beginStep_mode]) hkept

/-- Settles O42, from the steps that leave Busy and the stream steps among them. -/
theorem onlyTerminationOrResetEndsACommand : Obligations.OnlyTerminationOrResetEndsACommand := by
  unfold Obligations.OnlyTerminationOrResetEndsACommand
  intro s t hm hstep hidle
  obtain ⟨sched, r, e, rfl⟩ | hreset := step_ends_busy hm hstep hidle
  · obtain hlast | ⟨v, rest, hp, he, h⟩ := streamStep_ends_busy (by simpa using hm) hidle
    · exact .inl (by simpa using hlast)
    · exact .inr (.inl ⟨v, rest, by simpa using hp, by rw [h]; exact he, by rw [h]; rfl, by rw [h]; rfl⟩)
  · exact .inr (.inr hreset)

end Sys2Proof.Machine

/-! ## The Idle CTE

70_reset_and_hazards.md rule R171: of all that a step can do while Idle, only the accept of a CMD write starts anything. -/

namespace Sys2Proof.Machine

/-- While Idle with nothing pending, every step but a CMD write leaves the CTE Idle, the list empty and the sink's record as it
was: a stream step does nothing, a reset clears the list, no other bus access touches the stream. -/
theorem step_idle_runs_nothing {s t : State} (hm : s.mode = .idle) (hp : s.pending = [])
    (hcmd : ∀ w sched, s.env ≠ hostCMD w :: sched) (hstep : step s = .next t) :
    t.mode = .idle ∧ t.pending = [] ∧ t.sunk = s.sunk := by
  obtain ⟨rest, r, e, -, rfl⟩ | ⟨rest, -, rfl⟩ | ⟨rest, w, i, henv, -, -⟩ | ⟨rest, w, e, henv, -, -⟩ |
    ⟨rest, tx, a, -, -, rfl⟩ := step_cases hstep
  · rw [streamStep_idle (by simpa using hm)]
    exact ⟨hm, hp, rfl⟩
  · exact ⟨rfl, rfl, rfl⟩
  · exact absurd henv (hcmd w rest)
  · exact absurd henv (hcmd w rest)
  · obtain ⟨-, hmode, hpending, -, -, -, -, -, -, -, hsunk, -⟩ := perform_frame (s.beginStep rest) a
    exact ⟨hmode.trans hm, hpending.trans hp, hsunk⟩

/-- Settles O56, from the reset values and what a step of an Idle CTE can do. -/
theorem idleRunsNothingUntilCmdIsWritten : Obligations.IdleRunsNothingUntilCmdIsWritten := by
  unfold Obligations.IdleRunsNothingUntilCmdIsWritten
  exact ⟨rfl, rfl, rfl, rfl, rfl, rfl, irq_eq_false_of_irqEn rfl, fun _ _ => step_idle_runs_nothing⟩

end Sys2Proof.Machine

/-! ## Decoder and encoder

30_encoding.md rules R71 to R76, R80 and R82: a word that decodes is its row's OP, the operand fields and zeros, which is what the
encoder writes; so the two are inverse to each other. -/

namespace Sys2Proof.Machine

/-! ### The command a row reads from a word -/

/-- The command that the row with an OP reads from the operand fields of a word (rule R71). -/
def rowCommand (w : Word) (op : BitVec 4) : Instr :=
  if op = 0x1#4 then .tone (freqOfFsel (fselField w)) (countField w)
  else if op = 0x2#4 then .cycle (freqOfFsel (fselField w))
  else if op = 0x3#4 then .half (freqOfFsel (fselField w)) (polarityOfPol (polField w))
  else if op = 0x4#4 then .silence (countField w)
  else if op = 0x5#4 then .bit (bitField w)
  else if op = 0x6#4 then .byte (byteField w)
  else if op = 0x7#4 then .frameMeta
  else if op = 0x8#4 then .frameProg
  else .encode

/-- A word with a row's OP is decoded by the check against that row, to what the row reads. -/
theorem decode_eq_decodeRow {r : OpcodeRow} (hr : r ∈ opcodeMap) {w : Word} (hop : opField w = r.op) :
    decode w = decodeRow w r.matchWord r.mask (rowCommand w r.op) := by
  simp only [opcodeMap, List.mem_cons, List.not_mem_nil, or_false] at hr
  rcases hr with rfl | rfl | rfl | rfl | rfl | rfl | rfl | rfl | rfl <;>
    (simp only [decode, hop]; rfl)

/-- The decoder answers a command exactly on the words that match a row, and it is the command the row reads. -/
theorem decode_eq_ok_iff {w : Word} {i : Instr} :
    decode w = .ok i ↔ ∃ r ∈ opcodeMap, w &&& r.mask = r.matchWord ∧ rowCommand w r.op = i := by
  constructor
  · intro h
    obtain ⟨r, hr, hm, -⟩ := match_of_decode h
    rw [decode_eq_decodeRow hr ((row_match_iff hr w).mp hm).1] at h
    exact ⟨r, hr, decodeRow_eq_ok_iff.mp h⟩
  · rintro ⟨r, hr, hm, hi⟩
    rw [decode_eq_decodeRow hr ((row_match_iff hr w).mp hm).1]
    exact decodeRow_eq_ok_iff.mpr ⟨hm, hi⟩

/-! ### Operand codes -/

/-- Every frequency is the one its FSEL selects (rule R72). -/
theorem freqOfFsel_fsel (f : Freq) : freqOfFsel f.fsel = f := by
  cases f <;> rfl

/-- Every FSEL is the code of the frequency it selects (rule R72). -/
theorem fsel_freqOfFsel (b : BitVec 2) : (freqOfFsel b).fsel = b := by
  revert b
  decide

/-- The polarity code read from a word is its POL bit (rule R73). -/
theorem pol_polarityOfPol (w : Word) : (polarityOfPol (polField w)).pol = w.extractLsb' 25 1 := by
  refine BitVec.eq_of_getLsbD_eq fun i hi => ?_
  obtain rfl : i = 0 := by omega
  rw [polField, BitVec.getLsbD_extractLsb', Nat.add_zero]
  cases w.getLsbD 25 <;> rfl

/-- The count read from a word is its 24-bit field (rule R74). -/
theorem ofNat_countField (w : Word) : BitVec.ofNat 24 (countField w) = w.extractLsb' 0 24 := by
  rw [countField, BitVec.ofNat_toNat, BitVec.setWidth_eq]

/-- The bit read from a word is its lowest bit (rule R71). -/
theorem ofBool_bitField (w : Word) : BitVec.ofBool (bitField w) = w.extractLsb' 0 1 := by
  refine BitVec.eq_of_getLsbD_eq fun i hi => ?_
  obtain rfl : i = 0 := by omega
  simp [bitField]

/-! ### Decoding an encoding -/

/-- The OP of a command (rule R75). -/
def opOf : Instr → BitVec 4
  | .tone _ _ => 0x1#4
  | .cycle _ => 0x2#4
  | .half _ _ => 0x3#4
  | .silence _ => 0x4#4
  | .bit _ => 0x5#4
  | .byte _ => 0x6#4
  | .frameMeta => 0x7#4
  | .frameProg => 0x8#4
  | .encode => 0x9#4

/-- Every command has its row. -/
theorem row_of_instr (i : Instr) : ∃ r ∈ opcodeMap, r.mnemonic = mnemonicOf i ∧ r.op = opOf i := by
  cases i <;> simp [opcodeMap, mnemonicOf, opOf]

/-- The encoding of a command matches its row (rule R75). -/
theorem encode_matches_row (i : Instr) {r : OpcodeRow} (hr : r ∈ opcodeMap) (hi : r.mnemonic = mnemonicOf i) :
    encode i &&& r.mask = r.matchWord := by
  cases i with
  | tone f n => exact Laws.EncodeMatchesRow.tone f n r hr hi
  | cycle f => exact Laws.EncodeMatchesRow.cycle f r hr hi
  | half f p => exact Laws.EncodeMatchesRow.half f p r hr hi
  | silence n => exact Laws.EncodeMatchesRow.silence n r hr hi
  | bit v => exact Laws.EncodeMatchesRow.bit v r hr hi
  | byte d => exact Laws.EncodeMatchesRow.byte d r hr hi
  | frameMeta => exact Laws.EncodeMatchesRow.frameMeta r hr hi
  | frameProg => exact Laws.EncodeMatchesRow.frameProg r hr hi
  | encode => exact Laws.EncodeMatchesRow.encode r hr hi

/-- A count below 2^24 is read back from the low bits of a word that ends with it. -/
theorem countField_append (high : BitVec 8) {n : Nat} (hn : n < 2 ^ 24) :
    countField (high ++ BitVec.ofNat 24 n : BitVec (8 + 24)) = n := by
  rw [countField, BitVec.extractLsb'_append_eq_right, BitVec.toNat_ofNat, Nat.mod_eq_of_lt hn]

/-- The row of a well-formed command reads the command from its encoding. -/
theorem rowCommand_encode {i : Instr} (hi : i.WellFormed) : rowCommand (encode i) (opOf i) = i := by
  cases i with
  | tone f n =>
    have hn : n < 2 ^ 24 := of_decide_eq_true hi
    have hfsel : fselField (encode (.tone f n)) = f.fsel := by
      rw [fselField, encode, BitVec.extractLsb'_append_eq_of_le (by decide)]
      cases f <;> rfl
    show Instr.tone (freqOfFsel (fselField (encode (.tone f n)))) (countField (encode (.tone f n))) = _
    rw [hfsel, freqOfFsel_fsel, encode, countField_append _ hn]
  | cycle f => cases f <;> decide
  | half f p => cases f <;> cases p <;> decide
  | silence n =>
    have hn : n < 2 ^ 24 := of_decide_eq_true hi
    exact congrArg Instr.silence (countField_append _ hn)
  | bit v => cases v <;> decide
  | byte d => exact congrArg Instr.byte BitVec.extractLsb'_append_eq_right
  | frameMeta => rfl
  | frameProg => rfl
  | encode => rfl

/-- Settles O1: the encoding matches the command's row, and the row reads every operand back. -/
theorem decodeOfEncodeGivesInstruction : Obligations.DecodeOfEncodeGivesInstruction := by
  unfold Obligations.DecodeOfEncodeGivesInstruction
  intro i hi
  obtain ⟨r, hr, hm, hop⟩ := row_of_instr i
  exact decode_eq_ok_iff.mpr ⟨r, hr, encode_matches_row i hr hm, by rw [hop, rowCommand_encode hi]⟩

/-! ### Encoding what was decoded -/

/-- A command of format Z (rule R71): OP and zeros. -/
theorem op_append_zero {w : Word} {op : BitVec 4} (hop : opField w = op) (hz : w.extractLsb' 0 28 = 0#28) :
    (op ++ 0#28 : BitVec (4 + 28)) = w := by
  rw [← hop, ← hz, opField, BitVec.extractLsb'_append_extractLsb'_eq_extractLsb' (by decide), BitVec.extractLsb'_eq_self]

/-- A word that matches a row is the encoding of what the row reads: by its format, OP and the operand fields are what the
encoder writes, the reserved field is 0, and the fields put together are the word (rule R71). -/
theorem encode_rowCommand {r : OpcodeRow} (hr : r ∈ opcodeMap) {w : Word} (hm : w &&& r.mask = r.matchWord) :
    encode (rowCommand w r.op) = w := by
  obtain ⟨hop, hz⟩ := (row_match_iff hr w).mp hm
  clear hm
  simp only [opcodeMap, List.mem_cons, List.not_mem_nil, or_false] at hr
  rcases hr with rfl | rfl | rfl | rfl | rfl | rfl | rfl | rfl | rfl <;> dsimp only at hop hz ⊢
  · replace hz : w.extractLsb' 24 2 = 0#2 := hz
    show 0x1#4 ++ (freqOfFsel (fselField w)).fsel ++ 0#2 ++ BitVec.ofNat 24 (countField w) = w
    rw [fsel_freqOfFsel, ofNat_countField, ← hop, ← hz]
    simp only [opField, fselField, BitVec.extractLsb'_append_extractLsb'_eq_extractLsb', BitVec.extractLsb'_eq_self]
  · replace hz : w.extractLsb' 0 26 = 0#26 := hz
    show 0x2#4 ++ (freqOfFsel (fselField w)).fsel ++ 0#26 = w
    rw [fsel_freqOfFsel, ← hop, ← hz]
    simp only [opField, fselField, BitVec.extractLsb'_append_extractLsb'_eq_extractLsb', BitVec.extractLsb'_eq_self]
  · replace hz : w.extractLsb' 0 25 = 0#25 := hz
    show 0x3#4 ++ (freqOfFsel (fselField w)).fsel ++ (polarityOfPol (polField w)).pol ++ 0#25 = w
    rw [fsel_freqOfFsel, pol_polarityOfPol, ← hop, ← hz]
    simp only [opField, fselField, BitVec.extractLsb'_append_extractLsb'_eq_extractLsb', BitVec.extractLsb'_eq_self]
  · replace hz : w.extractLsb' 24 4 = 0#4 := hz
    show 0x4#4 ++ 0#4 ++ BitVec.ofNat 24 (countField w) = w
    rw [ofNat_countField, ← hop, ← hz]
    simp only [opField, BitVec.extractLsb'_append_extractLsb'_eq_extractLsb', BitVec.extractLsb'_eq_self]
  · replace hz : w.extractLsb' 1 27 = 0#27 := hz
    show 0x5#4 ++ 0#27 ++ BitVec.ofBool (bitField w) = w
    rw [ofBool_bitField, ← hop, ← hz]
    simp only [opField, BitVec.extractLsb'_append_extractLsb'_eq_extractLsb', BitVec.extractLsb'_eq_self]
  · replace hz : w.extractLsb' 8 20 = 0#20 := hz
    show 0x6#4 ++ 0#20 ++ byteField w = w
    rw [← hop, ← hz]
    simp only [opField, byteField, BitVec.extractLsb'_append_extractLsb'_eq_extractLsb', BitVec.extractLsb'_eq_self]
  all_goals exact op_append_zero hop hz

/-- What a row reads is well-formed: its count has 24 bits (rule R74). -/
theorem rowCommand_wellFormed (w : Word) (op : BitVec 4) : (rowCommand w op).WellFormed := by
  have hn : countField w < 2 ^ 24 := BitVec.isLt _
  unfold rowCommand
  split_ifs
  · exact decide_eq_true hn
  · rfl
  · rfl
  · exact decide_eq_true hn
  all_goals rfl

/-- Settles O2: a word that decodes matches a row, and its bits are the row's OP, the operands read and zeros. -/
theorem encodeOfDecodeGivesWord : Obligations.EncodeOfDecodeGivesWord := by
  unfold Obligations.EncodeOfDecodeGivesWord
  intro w i h
  obtain ⟨r, hr, hm, rfl⟩ := decode_eq_ok_iff.mp h
  exact ⟨encode_rowCommand hr hm, rowCommand_wellFormed w r.op⟩

/-! ### The printed words -/

/-- Settles O4: the decoder run on the ten words of rule R82. -/
theorem listedWordsDecodeAsWritten : Obligations.ListedWordsDecodeAsWritten := by
  unfold Obligations.ListedWordsDecodeAsWritten
  decide

/-- Settles O5: the encoder and the assembler run on the table of rule R80. -/
theorem pseudoInstructionsExpandToTheirWords : Obligations.PseudoInstructionsExpandToTheirWords := by
  unfold Obligations.PseudoInstructionsExpandToTheirWords
  decide

end Sys2Proof.Machine

/-! ## The sample tables

40_synth.md section 1: the range of the entries, and their zeros, antisymmetry and stride. The last two are properties of the sine
that the tables hold truncated. -/

namespace Sys2Proof.Machine

/-! ### The range of a sample -/

/-- Every entry the ROM holds lies in [−95, 95] (rule R102). -/
theorem romRows_range (amp : Amplitude) (f : Freq) : ∀ row ∈ romRows amp f, ∀ v ∈ row, -95 ≤ v ∧ v ≤ 95 := by
  cases amp <;> cases f <;> decide +kernel

/-- What a default read of a list returns has a property that the default and every member have. -/
theorem getD_of_forall {α : Type} {P : α → Prop} {l : List α} {d : α} (hl : ∀ x ∈ l, P x) (hd : P d) (n : Nat) :
    P (l.getD n d) := by
  rw [List.getD_eq_getElem?_getD]
  cases h : l[n]? with
  | none => exact hd
  | some x => exact hl x (List.mem_of_getElem? h)

/-- Every entry lies in [−95, 95]. -/
theorem romEntry_range (amp : Amplitude) (f : Freq) (n : Nat) : -95 ≤ romEntry amp f n ∧ romEntry amp f n ≤ 95 :=
  getD_of_forall (P := fun v => -95 ≤ v ∧ v ≤ 95)
    (getD_of_forall (P := fun row => ∀ v ∈ row, -95 ≤ v ∧ v ≤ 95) (romRows_range amp f) (by simp) _) (by decide) _

/-- Every sample value lies in [−95, 95], whatever its polarity. -/
theorem sampleValue_range (amp : Amplitude) (f : Freq) (p : Polarity) (k : Nat) :
    -95 ≤ sampleValue amp f p k ∧ sampleValue amp f p k ≤ 95 := by
  obtain ⟨hlo, hhi⟩ := romEntry_range amp f (k % romPeriod f)
  cases p <;> simp only [sampleValue, polaritySign] <;> omega

/-- Settles O9: the range of every table entry, and the entries 18 and 25 of the 770 Hz tables. -/
theorem sampleValuesStayWithin95 : Obligations.SampleValuesStayWithin95 := by
  unfold Obligations.SampleValuesStayWithin95
  exact ⟨sampleValue_range, fun amp => by cases amp <;> decide⟩

/-! ### Entries as truncated sines -/

/-- A number has one truncation. -/
theorem isTrunc_unique {x : ℝ} {u v : Int} (hu : IsTrunc x u) (hv : IsTrunc x v) : u = v := by
  rcases le_total 0 x with hx | hx
  · rw [hu.1 hx, hv.1 hx]
  · rw [hu.2 hx, hv.2 hx]

/-- The angle of sample `k` (rule R101). -/
noncomputable def sampleAngle (f : Freq) (k : Nat) : ℝ := 2 * Real.pi * (freqHz f : ℝ) * (k : ℝ) / (11025 : ℝ)

/-- An entry below the period is its own sample's truncated sine. -/
theorem isTrunc_entry (amp : Amplitude) {f : Freq} {n : Nat} (hn : n < romPeriod f) :
    IsTrunc ((amp.value : ℚ) * Real.sin (sampleAngle f n)) (romEntry amp f n) := by
  simpa only [Nat.mod_eq_of_lt hn, sampleAngle] using isTrunc_romEntry amp f n

/-- The period's samples make p_f full turns (rule R105). -/
theorem freqHz_mul_romPeriod (f : Freq) : freqHz f * romPeriod f = romStride f * 11025 := by cases f <;> rfl

/-- The angles of samples `n` and P_f − n add up to p_f full turns. -/
theorem sampleAngle_period_sub {f : Freq} {n : Nat} (hn : n ≤ romPeriod f) :
    sampleAngle f (romPeriod f - n) = romStride f * (2 * Real.pi) - sampleAngle f n := by
  have h : (freqHz f : ℝ) * romPeriod f = romStride f * 11025 := by exact_mod_cast freqHz_mul_romPeriod f
  rw [sampleAngle, sampleAngle, Nat.cast_sub hn]
  linear_combination 2 * Real.pi / 11025 * h

/-- The tables are antisymmetric. -/
theorem romEntry_period_sub (amp : Amplitude) (f : Freq) {n : Nat} (hn : n < romPeriod f) (hpos : 0 < n) :
    romEntry amp f (romPeriod f - n) = -romEntry amp f n := by
  have hsub := isTrunc_entry amp (f := f) (n := romPeriod f - n) (by omega)
  rw [sampleAngle_period_sub hn.le, Real.sin_nat_mul_two_pi_sub, mul_neg] at hsub
  exact isTrunc_unique hsub (isTrunc_neg (isTrunc_entry amp hn))

/-- Two tables of one period hold the same value where the phase is the same. -/
theorem romEntry_eq_of_phase_eq (amp : Amplitude) {f g : Freq} {n m : Nat} (hP : romPeriod f = romPeriod g)
    (hn : n < romPeriod f) (hm : m < romPeriod g)
    (hphase : romStride g * m % romPeriod g = romStride f * n % romPeriod f) : romEntry amp f n = romEntry amp g m := by
  have hsin : Real.sin (sampleAngle f n) = Real.sin (sampleAngle g m) := by
    rw [sampleAngle, sampleAngle, sin_sample_eq, sin_sample_eq, hphase, phaseStep, phaseStep, hP]
  exact isTrunc_unique (hsin ▸ isTrunc_entry amp hn) (isTrunc_entry amp hm)

/-- The zero entries of the four tables, under both amplitudes. -/
theorem romEntry_zeros (amp : Amplitude) :
    (∀ n < 315, romEntry amp .f770 n = 0 ↔ n ∈ [0, 136, 179]) ∧
    (∀ n < 441, romEntry amp .f1000 n = 0 ↔ n ∈ [0, 215, 226]) ∧
    (∀ n < 441, romEntry amp .f2000 n = 0 ↔ n ∈ [0, 113, 328]) ∧
    (∀ n < 441, romEntry amp .f2500 n = 0 ↔ n ∈ [0, 86, 355]) := by
  cases amp <;> decide +kernel

/-- Settles O8: the zeros by inspection of the tables, antisymmetry and stride from the sine they hold truncated. -/
theorem tablesHaveTheirZerosSymmetryAndStride : Obligations.TablesHaveTheirZerosSymmetryAndStride := by
  unfold Obligations.TablesHaveTheirZerosSymmetryAndStride
  exact ⟨romEntry_zeros, fun amp f n => romEntry_period_sub amp f,
    fun amp n hn m hm => romEntry_eq_of_phase_eq amp (f := .f2000) (g := .f1000) rfl hn hm,
    fun amp n hn m hm => romEntry_eq_of_phase_eq amp (f := .f2500) (g := .f1000) rfl hn hm⟩

end Sys2Proof.Machine

/-! ## Lengths of the event lists

41_fsk.md section 1 and 42_framer.md section 3: how many samples a bit, a byte, a segment and an encode have, by the 1 bits of
their bytes. -/

namespace Sys2Proof.Machine

/-! ### Bits and bytes -/

/-- A bit has 5 samples, and 6 more if it is 1 (rule R120). -/
theorem samplesOf_listBit_length (amp : Amplitude) (v : Bool) : (samplesOf (listBit amp v)).length = 5 + 6 * v.toNat := by
  cases v <;> simp [listBit, listTone]

/-- The samples of a bit add up to 38 for 0 and to 0 for 1, under AMPLITUDE = 381/4 (rules R109, R120). -/
theorem samplesOf_listBit_sum (v : Bool) :
    (samplesOf (listBit .threeQuartersOf127 v)).sum = 38 - 38 * (v.toNat : Int) := by
  cases v <;> decide

/-- A byte has 40 samples, and 6 more for each 1 bit (rule R125). -/
theorem samplesOf_listByte_length (amp : Amplitude) (d : Byte) :
    (samplesOf (listByte amp d)).length = 40 + 6 * popCount d := by
  simp only [listByte, samplesOf_append, List.length_append, samplesOf_listBit_length, popCount]
  omega

/-- The samples of a byte add up to 38 for each 0 bit, under AMPLITUDE = 381/4 (rule R125). -/
theorem samplesOf_listByte_sum (d : Byte) :
    (samplesOf (listByte .threeQuartersOf127 d)).sum = 38 * (8 - (popCount d : Int)) := by
  simp only [listByte, samplesOf_append, List.sum_append, samplesOf_listBit_sum, popCount]
  push_cast
  ring

/-- Settles O16, from the length and the sum of one bit. -/
theorem byteLengthAndSumFollowItsOneBits : Obligations.ByteLengthAndSumFollowItsOneBits := by
  unfold Obligations.ByteLengthAndSumFollowItsOneBits
  intro d
  simp only [byteEvents_eq]
  exact ⟨fun amp => samplesOf_listByte_length amp d, samplesOf_listByte_sum d⟩

/-! ### Segments -/

/-- The number of 1 bits of a list of bytes. -/
def popSum (data : List Byte) : Nat := (data.map popCount).sum

@[simp] theorem popSum_nil : popSum [] = 0 := rfl

@[simp] theorem popSum_cons (d : Byte) (data : List Byte) : popSum (d :: data) = popCount d + popSum data := rfl

@[simp] theorem popSum_append (data more : List Byte) : popSum (data ++ more) = popSum data + popSum more := by
  simp [popSum]

/-- Serialized data has 40 samples for each byte and 6 more for each 1 bit. -/
theorem samplesOf_flatMap_listByte_length (amp : Amplitude) (data : List Byte) :
    (samplesOf (data.flatMap (listByte amp))).length = 40 * data.length + 6 * popSum data := by
  induction data with
  | nil => rfl
  | cons d data ih =>
    rw [List.flatMap_cons, samplesOf_append, List.length_append, ih, samplesOf_listByte_length, popSum_cons,
      List.length_cons]
    ring

/-- The length of a segment: leader, sync and footer have 44115 samples. -/
theorem samplesOf_segmentEvents_length (amp : Amplitude) (k : Seg) (data : List Byte) :
    (samplesOf (segmentEvents amp k data)).length =
      44115 + 40 * (data.length + 1) + 6 * popSum (data ++ [checksum data]) := by
  have hleader : (samplesOf (listTone amp .f770 44100)).length = 44100 := by
    rw [listTone, samplesOf_map_sample, List.length_map, List.length_range]
  have hsync (f : Freq) (σ : Int) : (samplesOf (listHalf amp f σ 2)).length = 2 := by
    rw [listHalf, samplesOf_map_sample, List.length_map, List.length_range]
  simp only [segment_eq, listSegment, samplesOf_append, List.length_append, hleader, hsync, samplesOf_setChk, samplesOf_nil,
    List.length_nil, samplesOf_flatMap_listByte_length, samplesOf_listByte_length, samplesOf_listBit_length, popSum_append,
    popSum_cons, popSum_nil, Bool.toNat_true]
  ring

/-- Settles O25, from the lengths of a segment's parts. -/
theorem segmentLengthFollowsItsBytes : Obligations.SegmentLengthFollowsItsBytes := by
  unfold Obligations.SegmentLengthFollowsItsBytes
  exact samplesOf_segmentEvents_length

/-! ### How many 1 bits a segment's bytes can have -/

/-- The number of 1 bits as a sum over the bit positions. -/
theorem popCount_eq_sum (d : Byte) : popCount d = ∑ i ∈ Finset.range 8, (d.getLsbD i).toNat := by
  simp only [popCount, Finset.sum_range_succ, Finset.sum_range_zero, Nat.zero_add]

/-- A byte has at most eight 1 bits. -/
theorem popCount_le (d : Byte) : popCount d ≤ 8 := by
  rw [popCount_eq_sum]
  exact Finset.sum_le_card_nsmul _ _ 1 fun i _ => Bool.toNat_le _

/-- Data has at most eight 1 bits for each byte. -/
theorem popSum_le (data : List Byte) : popSum data ≤ 8 * data.length := by
  induction data with
  | nil => simp
  | cons d data ih =>
    have := popCount_le d
    rw [popSum_cons, List.length_cons]
    omega

/-- A 1 bit of an XOR is a 1 bit of an operand. -/
theorem popCount_xor_le (a b : Byte) : popCount (a ^^^ b) ≤ popCount a + popCount b := by
  have hbit (u v : Bool) : (u ^^ v).toNat ≤ u.toNat + v.toNat := by cases u <;> cases v <;> decide
  rw [popCount_eq_sum, popCount_eq_sum, popCount_eq_sum, ← Finset.sum_add_distrib]
  exact Finset.sum_le_sum fun i _ => by rw [BitVec.getLsbD_xor]; exact hbit _ _

/-- Data and its checksum have a 1 bit at every position: together they XOR to the seed 0xFF. -/
theorem eight_le_popSum (data : List Byte) : 8 ≤ popSum (data ++ [checksum data]) := by
  induction data using List.reverseRecOn with
  | nil => decide
  | append_singleton data d ih =>
    have hc : checksum data = checksum (data ++ [d]) ^^^ d := by
      rw [checksum_append, BitVec.xor_assoc, BitVec.xor_self, BitVec.xor_zero]
    have hle := popCount_xor_le (checksum (data ++ [d])) d
    rw [← hc] at hle
    simp only [popSum_append, popSum_cons, popSum_nil] at ih ⊢
    omega

/-- Three bytes and their checksum leave a 0 bit at every position: the number of 1 bits there is odd. -/
theorem popSum_three_le (a b c : Byte) : popSum ([a, b, c] ++ [checksum [a, b, c]]) ≤ 24 := by
  have hbit (u v w : Bool) : u.toNat + (v.toNat + (w.toNat + (true ^^ u ^^ v ^^ w).toNat)) ≤ 3 := by
    cases u <;> cases v <;> cases w <;> decide
  have hseed : ∀ i < 8, (0xFF#8).getLsbD i = true := by decide
  simp only [List.cons_append, List.nil_append, popSum_cons, popSum_nil, Nat.add_zero, popCount_eq_sum,
    ← Finset.sum_add_distrib]
  refine Finset.sum_le_card_nsmul _ _ 3 fun i hi => ?_
  simp only [checksum, List.foldl, Config.chkSeed, BitVec.getLsbD_xor, hseed i (Finset.mem_range.mp hi)]
  exact hbit _ _ _

/-! ### The length of an encode -/

/-- The samples of an encode, by the 1 bits of its two segments. -/
theorem samplesOf_encodeEvents_length (s : State) :
    (samplesOf (encodeEvents s)).length = 89532 + 40 * s.len +
      6 * (popSum (metaData s.len s.loadRun ++ [checksum (metaData s.len s.loadRun)]) +
        popSum (progData s s.len ++ [checksum (progData s s.len)])) := by
  have hmeta : (metaData s.len s.loadRun).length = 3 := rfl
  have hprog : (progData s s.len).length = s.len := segData_length s .progSeg
  have htrail : trailCall.count = 1102 := rfl
  simp only [encodeEvents, State.segment, segData, samplesOf_append, List.length_append, samplesOf_segmentEvents_length,
    samplesOf_callEvents_length, hmeta, hprog, htrail]
  ring

/-- An encode of a valid length has 89668 to 5856892 samples. -/
theorem samplesOf_encodeEvents_bounds {s : State} (hmin : 1 ≤ s.len) (hmax : s.len ≤ 65536) :
    89668 ≤ (samplesOf (encodeEvents s)).length ∧ (samplesOf (encodeEvents s)).length ≤ 5856892 := by
  have hprog : (progData s s.len).length = s.len := segData_length s .progSeg
  have hmetaLo := eight_le_popSum (metaData s.len s.loadRun)
  have hmetaHi : popSum (metaData s.len s.loadRun ++ [checksum (metaData s.len s.loadRun)]) ≤ 24 := popSum_three_le _ _ _
  have hprogLo := eight_le_popSum (progData s s.len)
  have hprogHi := popSum_le (progData s s.len ++ [checksum (progData s s.len)])
  rw [List.length_append, hprog, List.length_singleton] at hprogHi
  rw [samplesOf_encodeEvents_length]
  omega

/-- The shortest encode: one zero byte, load only. -/
theorem samplesOf_encodeEvents_shortest {s : State} (hlen : s.len = 1) (hrun : s.loadRun = false)
    (hbyte : s.bufByte 0 = 0x00#8) : (samplesOf (encodeEvents s)).length = 89668 := by
  have hprog : progData s 1 = [0x00#8] := by rw [← hbyte]; rfl
  rw [samplesOf_encodeEvents_length, hlen, hrun, hprog]
  decide

/-- An even number of bytes 0xFF leaves the checksum at its seed. -/
theorem checksum_replicate_even {n : Nat} (hn : 2 ∣ n) : checksum (List.replicate n 0xFF#8) = 0xFF#8 := by
  obtain ⟨m, rfl⟩ := hn
  induction m with
  | zero => rfl
  | succ m ih =>
    rw [Nat.mul_succ, List.replicate_succ', List.replicate_succ', checksum_append, checksum_append, ih]
    decide

/-- The 1 bits of bytes 0xFF. -/
theorem popSum_replicate (n : Nat) : popSum (List.replicate n 0xFF#8) = 8 * n := by
  have hpop : popCount 0xFF#8 = 8 := by decide
  rw [popSum, List.map_replicate, List.sum_replicate, hpop, smul_eq_mul, Nat.mul_comm]

/-- The longest encode: 65536 bytes 0xFF. -/
theorem samplesOf_encodeEvents_longest {s : State} (hlen : s.len = 65536) (hbytes : ∀ i < 65536, s.bufByte i = 0xFF#8) :
    (samplesOf (encodeEvents s)).length = 5856892 := by
  have hprog : progData s 65536 = List.replicate 65536 0xFF#8 := by
    refine List.eq_replicate_iff.mpr ⟨by simp [progData], fun b hb => ?_⟩
    obtain ⟨i, hi, rfl⟩ := List.mem_map.mp hb
    exact hbytes i (by simpa using hi)
  have hmeta : ∀ run, popSum (metaData 65536 run ++ [checksum (metaData 65536 run)]) = 24 := by decide
  have hpop : popCount 0xFF#8 = 8 := by decide
  rw [samplesOf_encodeEvents_length, hlen, hprog, hmeta, checksum_replicate_even (by decide), popSum_append, popSum_replicate,
    popSum_cons, popSum_nil, hpop]

/-- Settles O26, from the least and the greatest number of 1 bits the bytes can have. -/
theorem encodeStreamLengthIsBounded : Obligations.EncodeStreamLengthIsBounded := by
  unfold Obligations.EncodeStreamLengthIsBounded
  exact ⟨fun _ => samplesOf_encodeEvents_bounds, fun _ => samplesOf_encodeEvents_shortest,
    fun _ => samplesOf_encodeEvents_longest⟩

end Sys2Proof.Machine

/-! ## The accept of each command

10_state.md rule R37 with 40_synth.md and 42_framer.md: the events each command is accepted with while Idle, what every accept
leaves unchanged, and the steps that reach an accept. -/

namespace Sys2Proof.Machine

/-! ### The sample generator's commands -/

/-- TONE's events are one call of N samples (rule R108). -/
theorem commandEvents_tone (s : State) (f : Freq) (n : Nat) :
    commandEvents s (.tone f n) = .ok (listTone s.cfg.amplitude f n) :=
  congrArg Except.ok (callEvents_tone s.cfg.amplitude f n)

/-- CYCLE's events are a tone of one period (rule R109). -/
theorem commandEvents_cycle (s : State) (f : Freq) :
    commandEvents s (.cycle f) = .ok (listTone s.cfg.amplitude f (11025 / freqHz f)) :=
  congrArg Except.ok (callEvents_cycle s.cfg.amplitude f)

/-- HALF's events are half a period, with the polarity's sign (rule R110). -/
theorem commandEvents_half (s : State) (f : Freq) (p : Polarity) :
    commandEvents s (.half f p) = .ok (listHalf s.cfg.amplitude f (polaritySign p) (11025 / (2 * freqHz f))) :=
  congrArg Except.ok (callEvents_half s.cfg.amplitude f p)

/-- SILENCE's events are N zeros (rule R111). -/
theorem commandEvents_silence (s : State) (n : Nat) :
    commandEvents s (.silence n) = .ok (List.replicate n (Event.sample 0)) :=
  congrArg Except.ok (callEvents_silence s.cfg.amplitude n)

/-- One period of each table is the list the spec prints, under either amplitude (rules R109, R112). -/
theorem listTone_period (amp : Amplitude) (f : Freq) :
    listTone amp f (11025 / freqHz f) = (cycleSamples amp f).map Event.sample := by
  cases amp <;> cases f <;> decide

/-- Half a period of each table for 381/4 is the list the spec prints (rule R110). -/
theorem listHalf_high (f : Freq) :
    listHalf .threeQuartersOf127 f 1 (11025 / (2 * freqHz f)) = (halfSamples f).map Event.sample := by
  cases f <;> decide

/-- The same, negated (rule R110). -/
theorem listHalf_low (f : Freq) :
    listHalf .threeQuartersOf127 f (-1) (11025 / (2 * freqHz f)) = (halfSamples f).map fun v => Event.sample (-v) := by
  cases f <;> decide

/-- Settles O10, from the events of TONE and the accept while Idle. -/
theorem toneStreamsOneCallOfN : Obligations.ToneStreamsOneCallOfN := by
  unfold Obligations.ToneStreamsOneCallOfN
  exact fun s f n hm => exec_idle_ok hm (commandEvents_tone s f n)

/-- Settles O11, from the events of CYCLE, the accept while Idle and the printed lists. -/
theorem cycleStreamsOnePeriod : Obligations.CycleStreamsOnePeriod := by
  unfold Obligations.CycleStreamsOnePeriod
  exact fun s f hm => ⟨exec_idle_ok hm (commandEvents_cycle s f), listTone_period s.cfg.amplitude f⟩

/-- Settles O12, from the events of HALF, the accept while Idle and the printed lists. -/
theorem halfStreamsHalfAPeriodWithPolarity : Obligations.HalfStreamsHalfAPeriodWithPolarity := by
  unfold Obligations.HalfStreamsHalfAPeriodWithPolarity
  exact ⟨fun s f hm => ⟨exec_idle_ok hm (commandEvents_half s f .high), exec_idle_ok hm (commandEvents_half s f .low)⟩,
    fun f => ⟨listHalf_high f, listHalf_low f⟩⟩

/-- Settles O13, from the events of SILENCE and the accept while Idle. -/
theorem silenceStreamsZeros : Obligations.SilenceStreamsZeros := by
  unfold Obligations.SilenceStreamsZeros
  exact fun s n hm => exec_idle_ok hm (commandEvents_silence s n)

/-! ### The framer's commands -/

/-- With a valid LENGTH, FRAME.META's events are the metadata segment (rule R136). -/
theorem commandEvents_frameMeta {s : State} (hmin : 1 ≤ s.len) (hmax : s.len ≤ 65536) :
    commandEvents s .frameMeta = .ok (listMeta s) :=
  (validated_ok hmin hmax _).trans (congrArg Except.ok (segment_meta s))

/-- With a valid LENGTH, FRAME.PROG's events are the program segment (rule R138). -/
theorem commandEvents_frameProg {s : State} (hmin : 1 ≤ s.len) (hmax : s.len ≤ 65536) :
    commandEvents s .frameProg = .ok (listProg s) :=
  (validated_ok hmin hmax _).trans (congrArg Except.ok (segment_prog s))

/-- With a valid LENGTH, ENCODE's events are both segments and the silence (rule R139). -/
theorem commandEvents_encode {s : State} (hmin : 1 ≤ s.len) (hmax : s.len ≤ 65536) :
    commandEvents s .encode = .ok (listEncode s) :=
  (validated_ok hmin hmax _).trans (congrArg Except.ok (encodeEvents_eq s))

/-- Settles O18, from the events of FRAME.META and the accept while Idle. -/
theorem frameMetaStreamsTheMetadataSegment : Obligations.FrameMetaStreamsTheMetadataSegment := by
  unfold Obligations.FrameMetaStreamsTheMetadataSegment
  exact fun s hm hmin hmax => exec_idle_ok hm (commandEvents_frameMeta hmin hmax)

/-- Settles O19, from the events of FRAME.PROG and the accept while Idle. -/
theorem frameProgStreamsTheProgramSegment : Obligations.FrameProgStreamsTheProgramSegment := by
  unfold Obligations.FrameProgStreamsTheProgramSegment
  exact fun s hm hmin hmax => exec_idle_ok hm (commandEvents_frameProg hmin hmax)

/-- Settles O20, from the events of ENCODE and the accept while Idle. -/
theorem encodeStreamsBothSegmentsAndSilence : Obligations.EncodeStreamsBothSegmentsAndSilence := by
  unfold Obligations.EncodeStreamsBothSegmentsAndSilence
  exact fun s hm hmin hmax => exec_idle_ok hm (commandEvents_encode hmin hmax)

/-! ### Framer commands as sequences of other commands -/

/-- The first command's samples come first. -/
theorem samplesOfCommands_cons {s : State} {i : Instr} {l : List Event} (h : commandEvents s i = .ok l) (is : List Instr) :
    samplesOfCommands s (i :: is) = samplesOf l ++ samplesOfCommands s is := by
  simp [samplesOfCommands, h]

@[simp] theorem samplesOfCommands_nil (s : State) : samplesOfCommands s [] = [] := rfl

@[simp] theorem samplesOfCommands_append (s : State) (is js : List Instr) :
    samplesOfCommands s (is ++ js) = samplesOfCommands s is ++ samplesOfCommands s js := List.flatMap_append

/-- BYTE commands, one for each data byte, stream the serialized data. -/
theorem samplesOfCommands_byte (s : State) (data : List Byte) :
    samplesOfCommands s (data.map Instr.byte) = samplesOf (data.flatMap (listByte s.cfg.amplitude)) := by
  induction data with
  | nil => rfl
  | cons d data ih =>
    rw [List.map_cons, samplesOfCommands_cons (commandEvents_byte s d), List.flatMap_cons, samplesOf_append, ih]

/-- LEADER, SYNC, a BYTE for each data byte and the checksum, and FOOTER stream a segment. -/
theorem samplesOfCommands_segment (s : State) (k : Seg) (data : List Byte) :
    samplesOfCommands s (Pseudo.leader.expand ++ Pseudo.sync.expand ++ data.map Instr.byte ++ [.byte (checksum data)] ++
      Pseudo.footer.expand) = samplesOf (segmentEvents s.cfg.amplitude k data) := by
  have hhigh : 11025 / (2 * freqHz .f2500) = 2 := rfl
  have hlow : 11025 / (2 * freqHz .f2000) = 2 := rfl
  simp only [Pseudo.expand, samplesOfCommands_append, samplesOfCommands_nil, samplesOfCommands_byte,
    samplesOfCommands_cons (commandEvents_tone s _ _), samplesOfCommands_cons (commandEvents_half s _ _),
    samplesOfCommands_cons (commandEvents_byte s _), samplesOfCommands_cons (commandEvents_bit s _), hhigh, hlow, polaritySign,
    segment_eq, listSegment, samplesOf_append, samplesOf_setChk, samplesOf_nil, List.append_nil, List.nil_append,
    List.append_assoc]

/-- FRAME.META, FRAME.PROG and PAD stream an encode. -/
theorem samplesOfCommands_encode {s : State} (hmin : 1 ≤ s.len) (hmax : s.len ≤ 65536) :
    samplesOfCommands s ([.frameMeta, .frameProg] ++ Pseudo.pad.expand) = samplesOf (encodeEvents s) := by
  simp only [Pseudo.expand, samplesOfCommands_append, samplesOfCommands_nil,
    samplesOfCommands_cons (commandEvents_frameMeta hmin hmax), samplesOfCommands_cons (commandEvents_frameProg hmin hmax),
    samplesOfCommands_cons (commandEvents_silence s _), encodeEvents_eq, listEncode, samplesOf_append, List.append_nil,
    List.append_assoc]

/-- Settles O27, from a segment as a sequence of commands, for the metadata and for the program. -/
theorem framersEqualTheirPrimitiveCommands : Obligations.FramersEqualTheirPrimitiveCommands := by
  unfold Obligations.FramersEqualTheirPrimitiveCommands
  intro s hmin hmax
  refine ⟨?metadata, ?program, (samplesOfCommands_encode hmin hmax).symm⟩
  case metadata =>
    rw [State.segment, ← samplesOfCommands_segment, segData, checksum_metaData, metaData_eq]
    rfl
  case program =>
    rw [State.segment, ← samplesOfCommands_segment, segData, checksum_progData, progData_eq]

/-! ### Checksum laws -/

/-- The low and the high length byte are L − 1 in base 256 (rule R135). -/
theorem lenLow_lenHigh {l : Nat} (hmax : l ≤ 65536) : (lenLow l).toNat + 256 * (lenHigh l).toNat = l - 1 := by
  rw [lenLow, lenHigh, BitVec.toNat_ofNat, BitVec.toNat_ofNat]
  omega

/-- Data followed by its checksum XORs to zero (rule R133). -/
theorem foldl_xor_checksum (data : List Byte) : (data ++ [checksum data]).foldl (· ^^^ ·) 0xFF#8 = 0x00#8 := by
  rw [List.foldl_append]
  exact BitVec.xor_self

/-- Settles O24, from the metadata bytes, their checksum and the XOR of data with its checksum. -/
theorem segmentBytesXorToZero : Obligations.SegmentBytesXorToZero := by
  unfold Obligations.SegmentBytesXorToZero
  refine ⟨fun l r _ hmax => ⟨?_, lenLow_lenHigh hmax, metaData_eq l r, checksum_metaData l r⟩,
    fun s l => ⟨foldl_xor_checksum _, checksum_progData s l⟩⟩
  rw [← checksum_metaData]
  exact BitVec.xor_self

/-- The checksum depends only on the multiset of the data (rule R133). -/
theorem checksum_perm {data data' : List Byte} (h : data.Perm data') : checksum data = checksum data' :=
  h.foldl_eq' (fun a _ b _ acc => by rw [BitVec.xor_assoc, BitVec.xor_comm a, ← BitVec.xor_assoc]) _

/-! ### The accumulator of the hidden generator -/

@[simp] theorem enterCall_acc (s : State) (h : Hidden) : (enterCall s h).acc = h.acc := rfl

@[simp] theorem startSegment_acc (s : State) (h : Hidden) (k : Seg) : (startSegment s h k).acc = 0xFF#8 := rfl

/-- Within a byte the next bit keeps the accumulator. -/
theorem nextBit_acc (s : State) (h done : Hidden) :
    (nextBit s h done).acc = if h.bitIdx = 0 then done.acc else h.acc := by
  unfold nextBit
  by_cases hb : h.bitIdx = 0
  · rw [if_neg (by omega), if_pos hb]
  · rw [if_pos (by omega), if_neg hb, enterCall_acc]

/-- The end of a data byte takes it into the accumulator (rule R133). -/
theorem nextByte_acc (s : State) (h : Hidden) : (nextByte s h).acc = h.acc ^^^ segByte s h.seg h.byteIdx := by
  simp only [nextByte]
  split_ifs <;> rfl

/-- A footer keeps the accumulator or leads on to the next segment's leader, with the seed. -/
theorem afterFooter_acc (s : State) (h : Hidden) :
    (afterFooter s h).acc = h.acc ∨ (afterFooter s h).stage = .leader ∧ (afterFooter s h).acc = 0xFF#8 := by
  unfold afterFooter
  split_ifs
  · cases h.seg
    · exact .inr ⟨rfl, rfl⟩
    · exact .inl rfl
  · exact .inl rfl

/-- The end of a call that is neither a data bit nor the footer keeps the accumulator. -/
theorem nextCall_acc {s : State} {h : Hidden} (hpay : h.stage ≠ .payload) (hfoot : h.stage ≠ .footer) :
    (nextCall s h).acc = h.acc := by
  obtain ⟨cmd, stage, seg, phase, left, bitIdx, byteIdx, acc⟩ := h
  cases stage with
  | own =>
    cases cmd with
    | byte d => simp [nextCall, nextBit_acc]
    | _ => rfl
  | checksum => simp [nextCall, nextBit_acc]
  | payload => exact absurd rfl hpay
  | footer => exact absurd rfl hfoot
  | _ => rfl

/-- An event within a call keeps the accumulator; the last one does what the end of the call does. -/
theorem advanceHidden_acc (s : State) (h : Hidden) :
    (advanceHidden s h).acc = if h.left ≤ 1 then (nextCall s h).acc else h.acc := by
  unfold advanceHidden
  by_cases hl : 1 < h.left
  · rw [if_pos hl, if_neg (by omega)]
  · rw [if_neg hl, if_pos (by omega)]

/-- Settles O23: the fold with its seed, its order independence and its place in a segment, and the accumulator by the stage at
which a call ends. -/
theorem checksumIsSeededXorOfDataBytes : Obligations.ChecksumIsSeededXorOfDataBytes := by
  unfold Obligations.ChecksumIsSeededXorOfDataBytes
  refine ⟨rfl, fun d data => checksum_append data d, fun _ _ => checksum_perm, fun amp k data => ?place, startSegment_acc,
    fun s h hst => ?payload, fun s h hst => ?footer, fun s h hpay hfoot => ?other⟩
  case place =>
    rw [segment_eq]
    exact ⟨_, rfl⟩
  case payload =>
    have hnext : nextCall s h = nextBit s h (nextByte s h) := by simp only [nextCall, hst]
    rw [advanceHidden_acc, hnext, nextBit_acc, nextByte_acc]
    split_ifs <;> tauto
  case footer =>
    have hnext : nextCall s h = afterFooter s h := by simp only [nextCall, hst]
    unfold advanceHidden
    split_ifs
    · exact .inl rfl
    · exact hnext ▸ afterFooter_acc s h
  case other =>
    rw [advanceHidden_acc, nextCall_acc hpay hfoot, ite_self]

/-! ### What every accept leaves unchanged -/

/-- An accept while Idle fails with an error's code, or gives the accepted state of an event list (rule R37). -/
theorem accept_idle_cases {s : State} (hm : s.mode = .idle) (i : Instr) (r : Except CmdError (List Event)) :
    (∃ e, r = .error e ∧ accept i r s = failedState s (errorCode e)) ∨
    (∃ l, r = .ok l ∧ accept i r s = acceptedState s i l) := by
  cases r with
  | error e => exact .inl ⟨e, rfl, accept_error hm i e⟩
  | ok l => exact .inr ⟨l, rfl, accept_ok hm i l⟩

/-- Settles O28: a failed accept, an accept without events and an accept that streams, field by field. -/
theorem commandAcceptFrame : Obligations.CommandAcceptFrame := by
  unfold Obligations.CommandAcceptFrame
  intro i s t hm hexec
  rw [exec_eq_accept] at hexec
  obtain rfl := Host.Outcome.next.inj hexec
  obtain ⟨e, -, h⟩ | ⟨l, -, h⟩ := accept_idle_cases hm i (commandEvents s i) <;> rw [h]
  · simp [failedState, hm, State.byteAt]
  · cases l <;> simp [acceptedState, hm, State.byteAt]

/-- Settles O29: while Busy every accept is a dropped write. -/
theorem commandWhileBusyIsDropped : Obligations.CommandWhileBusyIsDropped := by
  unfold Obligations.CommandWhileBusyIsDropped
  intro i s hm
  rw [exec_eq_accept, accept_busy hm, State.dropWrite]

/-! ### The steps that reach an accept -/

/-- Settles O30, from the step at a CMD write of a legal word. -/
theorem stepRunsTheDecodedCommand : Obligations.StepRunsTheDecodedCommand := by
  unfold Obligations.StepRunsTheDecodedCommand
  exact fun s w i rest henv hd => step_command henv hd

/-- A table word of at most 32 bits decodes as the word it numbers. -/
theorem decode_tableWord {nbits w : Nat} {i : Instr} (h : decodeTableWord nbits w = some i) :
    decode (tableWord nbits w) = .ok i := by
  unfold decodeTableWord at h
  split_ifs at h
  cases hd : decode (tableWord nbits w) with
  | error e => simp [hd, Except.toOption] at h
  | ok j => simpa [hd, Except.toOption] using h

/-- Settles O31: the placed word is a CMD write at the head of the schedule. -/
theorem fetchWordIsRunByTheNextStep : Obligations.FetchWordIsRunByTheNextStep := by
  unfold Obligations.FetchWordIsRunByTheNextStep
  exact fun s w i h => step_command (s := s.withFetchWord 32 w) rfl (decode_tableWord h)

end Sys2Proof.Machine

/-! ## What one step does to the stream

10_state.md rules R20 to R25 and R37: every step leaves the stream alone, or applies a checksum point, or transfers a sample, or
aborts at a sample, or is a reset, or accepts a CMD write while Idle. The safety statements about the stream are read off this. -/

namespace Sys2Proof.Machine

/-! ### States that differ in the agents' affairs only -/

/-- The start of a step changes the schedule, the step counter and the answer only. -/
theorem sameMachine_beginStep (s : State) (rest : List EnvEvent) : SameMachine s (s.beginStep rest) := by
  constructor <;> simp

/-- The sink's levels are no part of the machine. -/
theorem sameMachine_driveSink (s : State) (rest : List EnvEvent) (r e : Bool) :
    SameMachine s ((s.beginStep rest).driveSink r e) := by
  constructor <;> simp [State.byteAt]

/-- An answer on the bus is no part of the machine. -/
theorem sameMachine_respond (s : State) (rest : List EnvEvent) (resp : Resp) (rdata : Option Word) :
    SameMachine s ((s.beginStep rest).respond resp rdata) := by
  constructor <;> simp [State.byteAt]

/-! ### Steps that leave the stream alone -/

/-- The step from `s` to `t` touches neither the stream nor, while Busy, the command's inputs; of DONE and ERR it sets none. -/
structure QuietStep (s t : State) : Prop where
  cfg : t.cfg = s.cfg
  mode : t.mode = s.mode
  pending : t.pending = s.pending
  done : t.done = true → s.done = true
  err : t.err = true → s.err = true
  errCode : t.errCode = s.errCode
  metaChk : t.metaChk = s.metaChk
  progChk : t.progChk = s.progChk
  count : t.sampleCount = s.sampleCount
  hidden : t.hidden = s.hidden
  sunk : t.sunk = s.sunk
  resets : t.resets = s.resets
  inputs : s.mode = .busy → t.length = s.length ∧ t.loadRun = s.loadRun ∧ t.irqEn = s.irqEn ∧ t.buf = s.buf
  buf_wf : s.buf.wf = true → t.buf.wf = true

/-- A step that changes nothing of the machine is quiet. -/
theorem SameMachine.quiet {s t : State} (h : SameMachine s t) : QuietStep s t := by
  obtain ⟨hcfg, hmode, hpending, ⟨hdone, herr, -, hcode⟩, ⟨hlen, hrun, hirq⟩, ⟨hmeta, hprog⟩, hcount, -, ⟨hbuf, hresets⟩,
    hhidden, hsunk⟩ := h
  exact ⟨hcfg, hmode, hpending, fun h => hdone ▸ h, fun h => herr ▸ h, hcode, hmeta, hprog, hcount, hhidden, hsunk, hresets,
    fun _ => ⟨hlen, hrun, hirq, hbuf⟩, fun h => hbuf.symm ▸ h⟩

/-- A dropped write is quiet: it sets WWB. -/
theorem quietStep_dropWrite (s : State) (rest : List EnvEvent) (resp : Resp) (rdata : Option Word) :
    QuietStep s ((s.beginStep rest).respond resp rdata).dropWrite := by
  constructor <;> simp

/-- A bus access sets neither DONE nor ERR. -/
theorem perform_sets_no_status (s : State) (a : Access) :
    ((perform s a).done = true → s.done = true) ∧ ((perform s a).err = true → s.err = true) := by
  obtain ⟨hdone, herr, -⟩ | ⟨v, -, hdone, herr, -⟩ := perform_status s a <;> rw [hdone, herr]
  · exact ⟨id, id⟩
  · simp only [clearedByOne, Bool.and_eq_true]
    exact ⟨And.left, And.left⟩

/-- A bus access other than a CMD write is quiet. -/
theorem quietStep_perform (s : State) (rest : List EnvEvent) {tx : BusTx} {a : Access} (hc : classify tx = .access a) :
    QuietStep s (perform (s.beginStep rest) a) := by
  obtain ⟨hcfg, hmode, hpending, hcode, hmeta, hprog, hcount, hhidden, -, -, hsunk, -, hresets, -⟩ :=
    perform_frame (s.beginStep rest) a
  obtain ⟨hdone, herr⟩ := perform_sets_no_status (s.beginStep rest) a
  exact ⟨hcfg, hmode, hpending, hdone, herr, hcode, hmeta, hprog, hcount, hhidden, hsunk, hresets,
    fun hm => perform_busy_inputs (s := s.beginStep rest) hm a, fun hw => perform_wf (s := s.beginStep rest) hc hw⟩

/-! ### What one step can do -/

/-- Everything one step can do to the stream, where `u` is the state at the start of the step. -/
inductive StepEffect (s t : State) : Prop where
  /-- A bus access, a dropped write, a waiting sink, or a stream step while Idle. -/
  | quiet (h : QuietStep s t)
  /-- The checksum point at the head is applied. -/
  | chkPoint (u : State) (k : Seg) (c : Byte) (rest : List Event) (same : SameMachine s u) (busy : s.mode = .busy)
      (head : s.pending = .setChk k c :: rest) (next : t = (u.applyChk k c).retire rest)
  /-- The sample at the head is transferred. -/
  | transfer (u : State) (v : Int) (rest : List Event) (same : SameMachine s u) (busy : s.mode = .busy)
      (head : s.pending = .sample v :: rest) (noErr : u.sinkErr = false) (ready : u.sReady = true)
      (next : t = (u.handOver v).retire rest)
  /-- The sample at the head is aborted. -/
  | abort (u : State) (v : Int) (rest : List Event) (same : SameMachine s u) (busy : s.mode = .busy)
      (head : s.pending = .sample v :: rest) (next : t = u.raiseError .sink)
  /-- The host asserts rst. -/
  | reset (u : State) (sched : List EnvEvent) (same : SameMachine s u) (env : s.env = .rst :: sched) (next : t = u.takeReset)
  /-- A CMD write while Idle whose word is illegal or whose command fails. -/
  | failed (u : State) (e : CmdError) (same : SameMachine s u) (idle : s.mode = .idle)
      (next : t = failedState u (errorCode e))
  /-- A CMD write while Idle whose command is accepted. -/
  | accepted (u : State) (w : Word) (i : Instr) (l : List Event) (same : SameMachine s u) (idle : s.mode = .idle)
      (decoded : decode w = .ok i) (events : commandEvents u i = .ok l) (next : t = acceptedState u i l)

/-- A stream step from `u`, the state at the start of the step. -/
theorem stepEffect_streamStep {s u : State} (h : SameMachine s u) : StepEffect s (streamStep u) := by
  obtain ⟨-, hs⟩ | ⟨-, -, hs⟩ | ⟨k, c, rest, hm, hp, hs⟩ | ⟨v, rest, hm, hp, -, hs⟩ | ⟨v, rest, hm, hp, he, hr, hs⟩ |
    ⟨v, rest, -, -, -, -, hs⟩ := streamStep_cases u
  · exact hs.symm ▸ .quiet h.quiet
  · exact hs.symm ▸ .quiet h.quiet
  · exact .chkPoint u k c rest h (h.mode ▸ hm) (h.pending ▸ hp) hs
  · exact .abort u v rest h (h.mode ▸ hm) (h.pending ▸ hp) hs
  · exact .transfer u v rest h (h.mode ▸ hm) (h.pending ▸ hp) he hr hs
  · exact hs.symm ▸ .quiet h.quiet

/-- Every step has one of the effects. -/
theorem stepEffect_of_step {s t : State} (hstep : step s = .next t) : StepEffect s t := by
  obtain ⟨rest, r, e, -, rfl⟩ | ⟨rest, henv, rfl⟩ | ⟨rest, w, i, -, hd, rfl⟩ | ⟨rest, w, e, -, -, rfl⟩ |
    ⟨rest, tx, a, -, hc, rfl⟩ := step_cases hstep
  · exact stepEffect_streamStep (sameMachine_driveSink s rest r e)
  · exact .reset _ rest (sameMachine_beginStep s rest) henv rfl
  · have hsame := sameMachine_respond s rest .okay none
    rcases mode_idle_or_busy s with hm | hm
    · obtain ⟨e, -, h⟩ | ⟨l, hl, h⟩ := accept_idle_cases (hsame.mode.trans hm) i (commandEvents _ i)
      · exact .failed _ e hsame hm h
      · exact .accepted _ w i l hsame hm hd hl h
    · rw [accept_busy (hsame.mode.trans hm)]
      exact .quiet (quietStep_dropWrite s rest _ _)
  · have hsame := sameMachine_respond s rest .okay none
    rcases mode_idle_or_busy s with hm | hm
    · exact .failed _ .illegalCmd hsame hm (acceptIllegal_idle (hsame.mode.trans hm))
    · rw [acceptIllegal_busy (hsame.mode.trans hm)]
      exact .quiet (quietStep_dropWrite s rest _ _)
  · exact .quiet (quietStep_perform s rest hc)

/-! ### Safety of the stream -/

/-- The accepted state keeps every field but the ones an accept clears and starts. -/
theorem acceptedState_frame (s : State) (i : Instr) (l : List Event) :
    (acceptedState s i l).cfg = s.cfg ∧ (acceptedState s i l).metaChk = s.metaChk ∧
    (acceptedState s i l).progChk = s.progChk ∧ (acceptedState s i l).sunk = s.sunk := by
  cases l <;> exact ⟨rfl, rfl, rfl, rfl⟩

/-- Settles O32: every case of the step answers a next state. -/
theorem everyStepAnswersANextState : Obligations.EveryStepAnswersANextState := by
  unfold Obligations.EveryStepAnswersANextState
  intro s
  rcases henv : s.env with _ | ⟨tx | _ | ⟨r, e⟩, rest⟩
  · exact ⟨_, step_nil henv⟩
  · rcases hc : classify tx with w | a
    · obtain rfl := (classify_command_iff tx w).mp hc
      rcases hd : decode w with e | i
      · exact ⟨_, step_illegal henv hd⟩
      · exact ⟨_, (step_command henv hd).trans (exec_eq_accept i _)⟩
    · exact ⟨_, step_access henv hc⟩
  · exact ⟨_, step_rst henv⟩
  · exact ⟨_, step_stream henv⟩

/-- Settles O33: no effect of a step writes the configuration. -/
theorem stepKeepsTheConfiguration : Obligations.StepKeepsTheConfiguration := by
  unfold Obligations.StepKeepsTheConfiguration
  intro s t hstep
  cases stepEffect_of_step hstep with
  | quiet h => exact h.cfg
  | chkPoint u k c rest same _ _ next => simpa [next] using same.cfg
  | transfer u v rest same _ _ _ _ next => simpa [next] using same.cfg
  | abort u v rest same _ _ next => simpa [next] using same.cfg
  | reset u sched same _ next => simpa [next] using same.cfg
  | failed u e same _ next => simpa [next, failedState] using same.cfg
  | accepted u w i l same _ _ _ next =>
    obtain ⟨hcfg, -⟩ := acceptedState_frame u i l
    exact next ▸ hcfg.trans same.cfg

/-- Settles O40: of the effects of a step only a transfer adds to the sink's record. -/
theorem onlyTransfersReachTheSink : Obligations.OnlyTransfersReachTheSink := by
  unfold Obligations.OnlyTransfersReachTheSink
  intro s t hstep
  cases stepEffect_of_step hstep with
  | quiet h => exact .inl h.sunk
  | chkPoint u k c rest same _ _ next => exact .inl (by simpa [next] using same.sunk)
  | transfer u v rest same busy head noErr ready next =>
    exact .inr ⟨v, rest, busy, head, by simp [next], by simp [next, same.sunk], by simp [next, same.count],
      by simp [next, ready], by simp [next, noErr]⟩
  | abort u v rest same _ _ next => exact .inl (by simpa [next] using same.sunk)
  | reset u sched same _ next => exact .inl (by simpa [next] using same.sunk)
  | failed u e same _ next => exact .inl (by simpa [next, failedState] using same.sunk)
  | accepted u w i l same _ _ _ next =>
    obtain ⟨-, -, -, hsunk⟩ := acceptedState_frame u i l
    exact .inl (next ▸ hsunk.trans same.sunk)

/-- Settles O41: of the effects of a step other than reset only a checksum point writes CHECKSUM, and only its own field. -/
theorem checksumIsWrittenOnlyAtItsPoint : Obligations.ChecksumIsWrittenOnlyAtItsPoint := by
  unfold Obligations.ChecksumIsWrittenOnlyAtItsPoint
  intro s t hstep hrst
  have hkept : t.metaChk = s.metaChk ∧ t.progChk = s.progChk ∨
      ∃ u k c rest, SameMachine s u ∧ s.mode = .busy ∧ s.pending = .setChk k c :: rest ∧ t = (u.applyChk k c).retire rest := by
    cases stepEffect_of_step hstep with
    | quiet h => exact .inl ⟨h.metaChk, h.progChk⟩
    | chkPoint u k c rest same busy head next => exact .inr ⟨u, k, c, rest, same, busy, head, next⟩
    | transfer u v rest same _ _ _ _ next => exact .inl (by simpa [next] using same.checksums)
    | abort u v rest same _ _ next => exact .inl (by simpa [next] using same.checksums)
    | reset u sched _ env _ => exact absurd env (hrst sched)
    | failed u e same _ next => exact .inl (by simpa [next, failedState] using same.checksums)
    | accepted u w i l same _ _ _ next =>
      obtain ⟨-, hmeta, hprog, -⟩ := acceptedState_frame u i l
      exact .inl (next ▸ ⟨hmeta.trans same.checksums.1, hprog.trans same.checksums.2⟩)
  obtain ⟨hmeta, hprog⟩ | ⟨u, k, c, rest, same, busy, head, rfl⟩ := hkept
  · exact ⟨absurd hmeta, absurd hprog⟩
  · cases k with
    | metaSeg => exact ⟨fun _ => ⟨rest, busy, by simpa using head⟩, fun h => absurd (by simpa using same.checksums.2) h⟩
    | progSeg => exact ⟨fun h => absurd (by simpa using same.checksums.1) h, fun _ => ⟨rest, busy, by simpa using head⟩⟩

/-- Settles O52: while Busy every effect of a step other than reset keeps the command's inputs. -/
theorem inputsAreFrozenWhileBusy : Obligations.InputsAreFrozenWhileBusy := by
  unfold Obligations.InputsAreFrozenWhileBusy
  intro s t hm hrst hstep
  have hkept : t.length = s.length ∧ t.loadRun = s.loadRun ∧ t.irqEn = s.irqEn ∧ t.buf = s.buf ∧ t.resets = s.resets := by
    cases stepEffect_of_step hstep with
    | quiet h =>
      obtain ⟨hlen, hrun, hirq, hbuf⟩ := h.inputs hm
      exact ⟨hlen, hrun, hirq, hbuf, h.resets⟩
    | chkPoint u k c rest same _ _ next => simpa [next, and_assoc] using And.intro same.inputs same.buffer
    | transfer u v rest same _ _ _ _ next => simpa [next, and_assoc] using And.intro same.inputs same.buffer
    | abort u v rest same _ _ next => simpa [next, and_assoc] using And.intro same.inputs same.buffer
    | reset u sched _ env _ => exact absurd env (hrst sched)
    | failed u e _ idle _ => simp [hm] at idle
    | accepted u w i l _ idle _ _ _ => simp [hm] at idle
  obtain ⟨hlen, hrun, hirq, hbuf, hresets⟩ := hkept
  exact ⟨hlen, hrun, hirq, hbuf, byteAt_congr hbuf hresets⟩

end Sys2Proof.Machine

/-! ## The invariant

10_state.md rules R30, R34 and R37: what an accepted event list satisfies, and that every effect of a step keeps the invariant. -/

namespace Sys2Proof.Machine

/-! ### Every sample of an event list lies in [−95, 95] -/

/-- Every sample of the list lies in [−95, 95] (40_synth.md rule R102). -/
def SamplesInRange (l : List Event) : Prop := ∀ v, Event.sample v ∈ l → -95 ≤ v ∧ v ≤ 95

theorem samplesInRange_nil : SamplesInRange [] := by simp [SamplesInRange]

theorem SamplesInRange.append {l m : List Event} (hl : SamplesInRange l) (hm : SamplesInRange m) :
    SamplesInRange (l ++ m) :=
  fun v hv => (List.mem_append.mp hv).elim (hl v) (hm v)

theorem SamplesInRange.tail {e : Event} {l : List Event} (h : SamplesInRange (e :: l)) : SamplesInRange l :=
  fun v hv => h v (List.mem_cons_of_mem e hv)

/-- A wave's value lies in the range. -/
theorem waveValue_range (amp : Amplitude) (w : Wave) (k : Nat) : -95 ≤ waveValue amp w k ∧ waveValue amp w k ≤ 95 := by
  cases w with
  | sine f p => exact sampleValue_range amp f p k
  | flat =>
    show (-95 : Int) ≤ 0 ∧ (0 : Int) ≤ 95
    decide

/-- A call's samples are values of its wave. -/
theorem samplesInRange_callEvents (amp : Amplitude) (c : Call) : SamplesInRange (callEvents amp c) := by
  intro v hv
  obtain ⟨k, -, hk⟩ := List.mem_map.mp hv
  injection hk with hk
  exact hk ▸ waveValue_range amp c.wave k

theorem samplesInRange_bitsBelow (amp : Amplitude) (d : Byte) (n : Nat) : SamplesInRange (bitsBelow amp d n) := by
  induction n with
  | zero => exact samplesInRange_nil
  | succ n ih => exact (samplesInRange_callEvents amp _).append ih

theorem samplesInRange_byteEvents (amp : Amplitude) (d : Byte) : SamplesInRange (byteEvents amp d) :=
  samplesInRange_bitsBelow amp d 8

theorem samplesInRange_flatMap_byteEvents (amp : Amplitude) (data : List Byte) :
    SamplesInRange (data.flatMap (byteEvents amp)) := by
  intro v hv
  obtain ⟨d, -, hd⟩ := List.mem_flatMap.mp hv
  exact samplesInRange_byteEvents amp d v hd

/-- A segment is made of calls and a checksum point (42_framer.md rule R130). -/
theorem samplesInRange_segmentEvents (amp : Amplitude) (k : Seg) (data : List Byte) :
    SamplesInRange (segmentEvents amp k data) := by
  have hend : SamplesInRange (segmentEnd amp k (checksum data)) := fun v hv =>
    ((samplesInRange_byteEvents amp _).append (samplesInRange_callEvents amp footerCall)) v (by
      simpa [segmentEnd] using hv)
  exact (((samplesInRange_callEvents amp _).append (samplesInRange_callEvents amp _)).append
    (samplesInRange_callEvents amp _)).append ((samplesInRange_flatMap_byteEvents amp data).append hend)

/-! ### Every event list ends with a sample -/

/-- The last event of the list, if it has one, is a sample. -/
def EndsWithSample (l : List Event) : Prop := ∀ e, l.getLast? = some e → ∃ v, e = Event.sample v

theorem EndsWithSample.append {m : List Event} (hm : EndsWithSample m) (hne : m ≠ []) (l : List Event) :
    EndsWithSample (l ++ m) := by
  intro e he
  rw [List.getLast?_append_of_ne_nil l hne] at he
  exact hm e he

theorem EndsWithSample.tail {e : Event} {l : List Event} (h : EndsWithSample (e :: l)) : EndsWithSample l := by
  intro x hx
  exact h x (by rw [List.getLast?_cons, hx]; rfl)

/-- A call is samples only. -/
theorem endsWithSample_callEvents (amp : Amplitude) (c : Call) : EndsWithSample (callEvents amp c) := by
  intro e he
  obtain ⟨k, -, hk⟩ := List.mem_map.mp (List.mem_of_getLast? he)
  exact ⟨_, hk.symm⟩

/-- A call that counts a sample has an event. -/
theorem callEvents_ne_nil {amp : Amplitude} {c : Call} (hc : 1 ≤ c.count) : callEvents amp c ≠ [] := by
  intro h
  have hlen := samplesOf_callEvents_length amp c
  rw [h] at hlen
  simp at hlen
  omega

/-- A byte ends with its bit 0, which has samples (41_fsk.md rule R123). -/
theorem endsWithSample_byteEvents (amp : Amplitude) (d : Byte) : EndsWithSample (byteEvents amp d) := by
  have hbit (v : Bool) : EndsWithSample (bitEvents amp v) ∧ bitEvents amp v ≠ [] :=
    ⟨endsWithSample_callEvents amp _, callEvents_ne_nil (bitCall_count_pos v)⟩
  obtain ⟨hlast, hne⟩ := hbit (d.getLsbD 0)
  simp only [byteEvents, bitsBelow, List.append_nil, ← List.append_assoc]
  exact hlast.append hne _

/-- A segment ends with its footer (42_framer.md rule R140). -/
theorem endsWithSample_segmentEvents (amp : Amplitude) (k : Seg) (data : List Byte) :
    EndsWithSample (segmentEvents amp k data) := by
  have hfooter : callEvents amp footerCall ≠ [] := callEvents_ne_nil (by decide)
  have hend : EndsWithSample (segmentEnd amp k (checksum data)) :=
    (endsWithSample_callEvents amp footerCall).append hfooter (Event.setChk k (checksum data) :: byteEvents amp _)
  rw [segmentEvents, segmentBody]
  exact (hend.append (by simp [segmentEnd]) _).append (by simp [segmentEnd]) _

/-! ### What an accepted event list satisfies -/

/-- What the invariant asks of an event list that a command is accepted with. -/
structure StreamList (l : List Event) : Prop where
  range : SamplesInRange l
  last : EndsWithSample l
  bound : (samplesOf l).length ≤ 16777215

/-- One call of at most 2^24 − 1 samples. -/
theorem streamList_callEvents {amp : Amplitude} {c : Call} (hc : c.count ≤ 16777215) : StreamList (callEvents amp c) :=
  ⟨samplesInRange_callEvents amp c, endsWithSample_callEvents amp c, by rwa [samplesOf_callEvents_length]⟩

/-- The events of an encode of a valid length. -/
theorem streamList_encodeEvents {s : State} (hmin : 1 ≤ s.len) (hmax : s.len ≤ 65536) : StreamList (encodeEvents s) where
  range := ((samplesInRange_segmentEvents _ _ _).append (samplesInRange_segmentEvents _ _ _)).append
    (samplesInRange_callEvents _ _)
  last := (endsWithSample_callEvents _ _).append (callEvents_ne_nil (by decide)) _
  bound := (samplesOf_encodeEvents_bounds hmin hmax).2.trans (by decide)

/-- The events of one segment of a valid length: an encode holds them too. -/
theorem streamList_segment {s : State} (hmin : 1 ≤ s.len) (hmax : s.len ≤ 65536) (k : Seg) : StreamList (s.segment k) where
  range := samplesInRange_segmentEvents _ _ _
  last := endsWithSample_segmentEvents _ _ _
  bound := by
    have h := (streamList_encodeEvents hmin hmax).bound
    rw [encodeEvents, samplesOf_append, samplesOf_append, List.length_append, List.length_append] at h
    cases k <;> omega

/-- A length that passes the check is valid, and the check passes the list on (42_framer.md rule R131). -/
theorem validated_eq_ok {s : State} {l m : List Event} (h : validated s l = .ok m) :
    1 ≤ s.len ∧ s.len ≤ 65536 ∧ l = m := by
  rw [validated_eq] at h
  split_ifs at h with hzero hlong
  injection h with h
  exact ⟨by omega, by omega, h⟩

/-- The events of every well-formed command. -/
theorem streamList_commandEvents {s : State} {i : Instr} {l : List Event} (hi : i.WellFormed)
    (hl : commandEvents s i = .ok l) : StreamList l := by
  have hshort (f : Freq) : cycleCount f ≤ 16777215 ∧ halfCount f ≤ 16777215 := by cases f <;> decide
  cases i with
  | tone f n =>
    obtain rfl := Except.ok.inj hl
    exact streamList_callEvents (Nat.le_pred_of_lt (of_decide_eq_true hi))
  | cycle f =>
    obtain rfl := Except.ok.inj hl
    exact streamList_callEvents (hshort f).1
  | half f p =>
    obtain rfl := Except.ok.inj hl
    exact streamList_callEvents (hshort f).2
  | silence n =>
    obtain rfl := Except.ok.inj hl
    exact streamList_callEvents (Nat.le_pred_of_lt (of_decide_eq_true hi))
  | bit v =>
    obtain rfl := Except.ok.inj hl
    exact streamList_callEvents (hshort _).1
  | byte d =>
    obtain rfl := Except.ok.inj hl
    refine ⟨samplesInRange_byteEvents _ d, endsWithSample_byteEvents _ d, ?_⟩
    have hpop := popCount_le d
    rw [byteEvents_eq, samplesOf_listByte_length]
    omega
  | frameMeta =>
    obtain ⟨hmin, hmax, rfl⟩ := validated_eq_ok hl
    exact streamList_segment hmin hmax .metaSeg
  | frameProg =>
    obtain ⟨hmin, hmax, rfl⟩ := validated_eq_ok hl
    exact streamList_segment hmin hmax .progSeg
  | encode =>
    obtain ⟨hmin, hmax, rfl⟩ := validated_eq_ok hl
    exact streamList_encodeEvents hmin hmax

/-! ### Every effect of a step keeps the invariant -/

/-- While Idle nothing is pending (rule R37). -/
theorem State.Inv.idle_pending {s : State} (hs : s.Inv) (hm : s.mode = .idle) : s.pending = [] := by
  by_contra hne
  have hbusy := hs.busy_iff_pending.mpr hne
  rw [hm] at hbusy
  cases hbusy

/-- A quiet step keeps the invariant. -/
theorem QuietStep.inv {s t : State} (h : QuietStep s t) (hs : s.Inv) : t.Inv where
  busy_iff_pending := by rw [h.mode, h.pending]; exact hs.busy_iff_pending
  busy_flags hm := by
    obtain ⟨hdone, herr, hcode⟩ := hs.busy_flags (h.mode ▸ hm)
    exact ⟨Bool.eq_false_iff.mpr fun hd => by simp [h.done hd] at hdone,
      Bool.eq_false_iff.mpr fun he => by simp [h.err he] at herr, h.errCode.trans hcode⟩
  done_or_err := fun ⟨hd, he⟩ => hs.done_or_err ⟨h.done hd, h.err he⟩
  done_code hd := h.errCode.trans (hs.done_code (h.done hd))
  err_code he := h.errCode ▸ hs.err_code (h.err he)
  code_le := h.errCode ▸ hs.code_le
  sample_range := h.pending ▸ hs.sample_range
  last_sample := h.pending ▸ hs.last_sample
  count_bound := by rw [h.count, h.pending]; exact hs.count_bound
  buf_wf := h.buf_wf hs.buf_wf

/-- Retiring an event keeps the invariant, if the counter has room for the rest. -/
theorem inv_retire {s u : State} {e : Event} {rest : List Event} (hs : s.Inv) (hp : s.pending = e :: rest)
    (hmode : u.mode = .busy) (hdone : u.done = s.done) (herr : u.err = s.err) (hcode : u.errCode = s.errCode)
    (hbuf : u.buf = s.buf) (hcount : u.sampleCount.toNat + (samplesOf rest).length ≤ 16777215) : (u.retire rest).Inv := by
  obtain ⟨hd, he, hc⟩ := hs.busy_flags (hs.busy_iff_pending.mpr (by simp [hp]))
  rw [hd] at hdone
  rw [he] at herr
  rw [hc] at hcode
  have hrange : SamplesInRange (e :: rest) := hp ▸ hs.sample_range
  have hlast : EndsWithSample (e :: rest) := hp ▸ hs.last_sample
  exact {
    busy_iff_pending := by by_cases hr : rest = [] <;> simp [hr, hmode]
    busy_flags := by by_cases hr : rest = [] <;> simp [hr, hdone, herr, hcode]
    done_or_err := by simp [herr]
    done_code := by simp [hcode]
    err_code := by simp [herr]
    code_le := by simp [hcode]
    sample_range := by rw [State.retire_pending]; exact hrange.tail
    last_sample := by rw [State.retire_pending]; exact hlast.tail
    count_bound := by simpa using hcount
    buf_wf := by simpa [hbuf] using hs.buf_wf }

/-- A termination with an error code keeps the invariant (60_exceptions.md rules R151, R152). -/
theorem inv_of_error {t : State} {e : CmdError} (hmode : t.mode = .idle) (hpending : t.pending = []) (hdone : t.done = false)
    (hcode : t.errCode = errorCode e) (hcount : t.sampleCount.toNat ≤ 16777215) (hbuf : t.buf.wf = true) : t.Inv where
  busy_iff_pending := by simp [hmode, hpending]
  busy_flags := by simp [hmode]
  done_or_err := by simp [hdone]
  done_code := by simp [hdone]
  err_code _ := by rw [hcode]; cases e <;> decide
  code_le := by rw [hcode]; cases e <;> decide
  sample_range := by simp [hpending]
  last_sample := by simp [hpending]
  count_bound := by simpa [hpending] using hcount
  buf_wf := hbuf

/-- An accept keeps the invariant. -/
theorem inv_acceptedState {s : State} {i : Instr} {l : List Event} (hs : s.Inv) (hm : s.mode = .idle) (hl : StreamList l) :
    (acceptedState s i l).Inv := by
  by_cases hne : l = []
  · subst hne
    have hp := hs.idle_pending hm
    constructor <;> simp [acceptedState, hm, hp, hs.buf_wf]
  · rw [acceptedState, if_neg hne]
    exact {
      busy_iff_pending := by simp [hne]
      busy_flags := by simp
      done_or_err := by simp
      done_code := by simp
      err_code := by simp
      code_le := by simp
      sample_range := hl.range
      last_sample := hl.last
      count_bound := by simpa using hl.bound
      buf_wf := hs.buf_wf }

/-- Reset establishes the invariant (10_state.md rule R42). -/
theorem inv_takeReset (s : State) : s.takeReset.Inv := by
  constructor <;> simp

/-- A command the decoder answers is well-formed (30_encoding.md rule R74). -/
theorem wellFormed_of_decode {w : Word} {i : Instr} (h : decode w = .ok i) : i.WellFormed :=
  (encodeOfDecodeGivesWord w i h).2

/-- Every step keeps the invariant. -/
theorem step_inv {s t : State} (hs : s.Inv) (hstep : step s = .next t) : t.Inv := by
  cases stepEffect_of_step hstep with
  | quiet h => exact h.inv hs
  | chkPoint u k c rest same busy head next =>
    have hcount := hs.count_bound
    rw [head, samplesOf_setChk] at hcount
    obtain ⟨hdone, herr, -, hcode⟩ := same.status
    rw [next]
    exact inv_retire hs head (by simpa [busy] using same.mode) (by simpa using hdone) (by simpa using herr)
      (by simpa using hcode) (by simpa using same.buffer.1) (by simpa [same.count] using hcount)
  | transfer u v rest same busy head _ _ next =>
    have hcount := hs.count_bound
    rw [head, samplesOf_sample, List.length_cons] at hcount
    obtain ⟨hdone, herr, -, hcode⟩ := same.status
    have hadd : (s.sampleCount + 1#32).toNat = s.sampleCount.toNat + 1 := by
      rw [BitVec.toNat_add, BitVec.toNat_ofNat]
      omega
    rw [next]
    exact inv_retire hs head (by simpa [busy] using same.mode) (by simpa using hdone) (by simpa using herr)
      (by simpa using hcode) (by simpa using same.buffer.1) (by
        rw [State.handOver_sampleCount, same.count, hadd]
        omega)
  | abort u v rest same busy _ next =>
    have hu := same.quiet.inv hs
    obtain ⟨hdone, -⟩ := hu.busy_flags (same.mode.trans busy)
    rw [next]
    exact inv_of_error (e := .sink) rfl rfl hdone rfl ((Nat.le_add_right _ _).trans hu.count_bound) hu.buf_wf
  | reset u sched _ _ next => exact next ▸ inv_takeReset u
  | failed u e same idle next =>
    have hu := same.quiet.inv hs
    rw [next]
    exact inv_of_error (t := failedState u _) (same.mode.trans idle) rfl rfl rfl (by simp [failedState]) hu.buf_wf
  | accepted u w i l same idle decoded events next =>
    rw [next]
    exact inv_acceptedState (same.quiet.inv hs) (same.mode.trans idle)
      (streamList_commandEvents (wellFormed_of_decode decoded) events)

/-- Settles O58, by the effects a step can have. -/
theorem everyStepKeepsTheInvariant : Obligations.EveryStepKeepsTheInvariant := by
  unfold Obligations.EveryStepKeepsTheInvariant
  exact fun _ _ => step_inv

/-- Settles O57: the reset state is Idle with an empty list and an empty buffer. -/
theorem invariantHoldsAtReset : Obligations.InvariantHoldsAtReset := by
  unfold Obligations.InvariantHoldsAtReset
  refine ⟨by constructor <;> simp [State.reset], fun hm => ?_⟩
  cases hm

end Sys2Proof.Machine

/-! ## The hidden generator and pending

10_state.md rule R38: the generator reads the configuration, LENGTH, CONFIG and the buffer only, which a Busy CTE does not change,
so that what it has still to produce stays what is pending. -/

namespace Sys2Proof.Machine

/-- What the generator reads of the state (rule R38, 20_memory.md rule R63). -/
def generatorInputs (s : State) : Params × BitVec 17 × Bool × Memory × Nat :=
  (s.cfg, s.length, s.loadRun, s.buf, s.resets)

/-- The generator's place, what it has still to produce and its next state depend on what it reads only. -/
theorem hidden_congr {s t : State} (h : generatorInputs t = generatorInputs s) (g : Hidden) :
    hiddenPlaced t g = hiddenPlaced s g ∧ hiddenRemaining t g = hiddenRemaining s g ∧
    advanceHidden t g = advanceHidden s g := by
  obtain ⟨⟩ := s
  obtain ⟨⟩ := t
  simp only [generatorInputs, Prod.mk.injEq] at h
  obtain ⟨rfl, rfl, rfl, rfl, rfl⟩ := h
  exact ⟨rfl, rfl, rfl⟩

/-- The agents' affairs are none of the generator's. -/
theorem SameMachine.generatorInputs_eq {s t : State} (h : SameMachine s t) : generatorInputs t = generatorInputs s := by
  simp only [generatorInputs, h.cfg, h.inputs, h.buffer]

/-- A quiet step leaves the generator where it stands. -/
theorem QuietStep.hiddenAgrees {s t : State} (h : QuietStep s t) (hs : s.HiddenAgrees) : t.HiddenAgrees := by
  intro hm
  have hbusy : s.mode = .busy := h.mode ▸ hm
  obtain ⟨hlen, hrun, -, hbuf⟩ := h.inputs hbusy
  obtain ⟨hplaced, hremaining, -⟩ :=
    hidden_congr (s := s) (t := t) (by simp only [generatorInputs, h.cfg, hlen, hrun, hbuf, h.resets]) s.hidden
  rw [h.hidden, h.pending, hplaced, hremaining]
  exact hs hbusy

/-- While Busy the generator's next event is the head of pending, and after it what remains is the rest. -/
theorem hiddenAgrees_head {s : State} {e : Event} {rest : List Event} (hs : s.HiddenAgrees) (hm : s.mode = .busy)
    (hp : s.pending = e :: rest) :
    hiddenEvent s s.hidden = e ∧ hiddenRemaining s (advanceHidden s s.hidden) = rest ∧
    (hiddenPlaced s (advanceHidden s s.hidden) ∨ rest = []) := by
  obtain ⟨hplaced, hremaining⟩ := hs hm
  obtain ⟨hhead, hnext⟩ := advanceHidden_spec s s.hidden hplaced
  rw [hremaining, hp] at hhead
  injection hhead with he hrest
  exact ⟨he.symm, hrest.symm, hrest ▸ hnext⟩

/-- Retiring the head event moves the generator on to the rest. -/
theorem hiddenAgrees_retire {s u : State} {e : Event} {rest : List Event} (hs : s.HiddenAgrees) (hm : s.mode = .busy)
    (hp : s.pending = e :: rest) (hin : generatorInputs u = generatorInputs s) (hh : u.hidden = s.hidden) :
    (u.retire rest).HiddenAgrees := by
  intro hbusy
  have hne : rest ≠ [] := by
    rintro rfl
    cases hbusy
  have hin' : generatorInputs (u.retire rest) = generatorInputs s := by simpa [generatorInputs] using hin
  obtain ⟨-, hremaining, hplaced⟩ := hiddenAgrees_head hs hm hp
  obtain ⟨hplaced', hremaining', -⟩ := hidden_congr hin' (advanceHidden s s.hidden)
  rw [State.retire_hidden, State.retire_pending, (hidden_congr hin u.hidden).2.2, hh, hplaced', hremaining']
  exact ⟨hplaced.resolve_right hne, hremaining⟩

/-- The accept of a command starts the generator at the command's events. -/
theorem hiddenAgrees_acceptedState {s : State} {i : Instr} {l : List Event} (hm : s.mode = .idle)
    (hl : commandEvents s i = .ok l) : (acceptedState s i l).HiddenAgrees := by
  intro hbusy
  have hne : l ≠ [] := by
    rintro rfl
    simp [acceptedState, hm] at hbusy
  have hin : generatorInputs (acceptedState s i l) = generatorInputs s := by
    rw [acceptedState, if_neg hne]
    rfl
  have hstart : (acceptedState s i l).hidden = startHidden s i ∧ (acceptedState s i l).pending = l := by
    simp [acceptedState, hne]
  obtain ⟨hplaced, hremaining, -⟩ := hidden_congr hin (startHidden s i)
  rw [hstart.1, hstart.2, hplaced, hremaining]
  exact startHidden_spec s i l hl hne

/-- Every step leaves the generator where pending stands. -/
theorem step_hiddenAgrees {s t : State} (hs : s.HiddenAgrees) (hstep : step s = .next t) : t.HiddenAgrees := by
  have hidle (u : State) (hm : u.mode = .idle) : u.HiddenAgrees := fun hbusy => by simp [hm] at hbusy
  cases stepEffect_of_step hstep with
  | quiet h => exact h.hiddenAgrees hs
  | chkPoint u k c rest same busy head next =>
    have hin : generatorInputs (u.applyChk k c) = generatorInputs s := by
      simpa [generatorInputs] using same.generatorInputs_eq
    exact next ▸ hiddenAgrees_retire hs busy head hin (by simpa using same.hidden)
  | transfer u v rest same busy head _ _ next =>
    exact next ▸ hiddenAgrees_retire hs busy head same.generatorInputs_eq same.hidden
  | abort u v rest same _ _ next => exact hidle t (by simp [next])
  | reset u sched same _ next => exact hidle t (by simp [next])
  | failed u e same idle next => exact hidle t (by simpa [next, failedState] using same.mode.trans idle)
  | accepted u w i l same idle _ events next =>
    exact next ▸ hiddenAgrees_acceptedState (same.mode.trans idle) events

/-- Settles O59, by the effects a step can have and the generator's next event. -/
theorem hiddenGeneratorRefinesPending : Obligations.HiddenGeneratorRefinesPending := by
  unfold Obligations.HiddenGeneratorRefinesPending
  exact ⟨fun s t _ hs hstep => step_hiddenAgrees hs hstep,
    fun s e rest hm hs hp => (hiddenAgrees_head hs hm hp).1⟩

end Sys2Proof.Machine

/-! ## What a command streams

10_state.md rules R24, R33 and R34: the events taken so far are what the sink was handed, what was counted and what was applied;
from this the order of the stream, its termination and its end. -/

namespace Sys2Proof.Machine

/-! ### Streamed events -/

/-- A CHECKSUM field after two lists (rule R33). -/
theorem chkAfter_append (which : Seg) (v : Byte) (l m : List Event) :
    chkAfter which v (l ++ m) = chkAfter which (chkAfter which v l) m := by
  induction l generalizing v with
  | nil => rfl
  | cons e l ih => cases e <;> exact ih _

/-- What was streamed first and what was streamed then. -/
theorem Streamed.trans {s t u : State} {l m : List Event} (h : Streamed s l t) (h' : Streamed t m u) :
    Streamed s (l ++ m) u where
  sunk := by rw [h'.sunk, h.sunk, samplesOf_append, List.map_append, List.reverse_append, List.append_assoc]
  count := by rw [h'.count, h.count, samplesOf_append, List.length_append, BitVec.ofNat_add, BitVec.add_assoc]
  metaField := by rw [h'.metaField, h.metaField, chkAfter_append]
  progField := by rw [h'.progField, h.progField, chkAfter_append]

/-- Nothing was streamed where the record, the counter and the checksums are kept. -/
theorem streamed_nil {s t : State} (hsunk : t.sunk = s.sunk) (hcount : t.sampleCount = s.sampleCount)
    (hmeta : t.metaChk = s.metaChk) (hprog : t.progChk = s.progChk) : Streamed s [] t :=
  ⟨by simpa using hsunk, by simpa using hcount, hmeta, hprog⟩

/-- A checksum point applied is one event streamed. -/
theorem streamed_chkPoint {s u : State} (same : SameMachine s u) (k : Seg) (c : Byte) (rest : List Event) :
    Streamed s [.setChk k c] ((u.applyChk k c).retire rest) where
  sunk := by simpa using same.sunk
  count := by simpa using same.count
  metaField := by cases k <;> simp [chkAfter, same.checksums]
  progField := by cases k <;> simp [chkAfter, same.checksums]

/-- A sample transferred is one event streamed. -/
theorem streamed_transfer {s u : State} (same : SameMachine s u) (v : Int) (rest : List Event) :
    Streamed s [.sample v] ((u.handOver v).retire rest) where
  sunk := by simp [same.sunk]
  count := by simp [same.count]
  metaField := by simpa [chkAfter] using same.checksums.1
  progField := by simpa [chkAfter] using same.checksums.2

/-! ### The stream is in order -/

/-- An event retired: the command goes on with the rest, or has ended DONE with all of its events streamed. -/
theorem streamed_retire {base s u : State} {e : Event} {l taken rest : List Event} (hl : l = taken ++ s.pending)
    (htaken : Streamed base taken s) (hp : s.pending = e :: rest) (hmode : u.mode = .busy) (herr : u.err = false)
    (he : Streamed s [e] (u.retire rest)) :
    ((u.retire rest).mode = .busy ∧ ∃ more, l = taken ++ more ++ (u.retire rest).pending ∧
      Streamed base (taken ++ more) (u.retire rest)) ∨
    ((u.retire rest).mode = .idle ∧ (u.retire rest).done = true ∧ (u.retire rest).err = false ∧
      Streamed base l (u.retire rest)) := by
  have hmore := htaken.trans he
  by_cases hr : rest = []
  · have hall : l = taken ++ [e] := by rw [hl, hp, hr]
    exact .inr ⟨by simp [hr], by simp [hr], by simpa using herr, hall ▸ hmore⟩
  · exact .inl ⟨by simp [hr, hmode], [e], by simp [hl, hp], hmore⟩

/-- Settles O39, by the effects a step of a Busy CTE can have. -/
theorem streamIsAlwaysAPrefixOfItsCommand : Obligations.StreamIsAlwaysAPrefixOfItsCommand := by
  unfold Obligations.StreamIsAlwaysAPrefixOfItsCommand
  intro base s t l taken hs hm hl htaken hrst hstep
  obtain ⟨hdone, herr, -⟩ := hs.busy_flags hm
  cases stepEffect_of_step hstep with
  | quiet h =>
    refine .inl ⟨h.mode.trans hm, [], by simp [hl, h.pending], ?_⟩
    exact htaken.trans (streamed_nil h.sunk h.count h.metaChk h.progChk)
  | chkPoint u k c rest same busy head next =>
    rw [next]
    refine (streamed_retire hl htaken head ?_ ?_ (streamed_chkPoint same k c rest)).imp_right .inl
    · simpa using same.mode.trans hm
    · simpa using same.status.2.1.trans herr
  | transfer u v rest same busy head _ _ next =>
    rw [next]
    refine (streamed_retire hl htaken head ?_ ?_ (streamed_transfer same v rest)).imp_right .inl
    · simpa using same.mode.trans hm
    · simpa using same.status.2.1.trans herr
  | abort u v rest same _ _ next =>
    rw [next]
    refine .inr (.inr ⟨rfl, same.status.1.trans hdone, rfl, rfl, ?_⟩)
    have hnone : Streamed s [] (u.raiseError .sink) :=
      streamed_nil same.sunk same.count same.checksums.1 same.checksums.2
    simpa using htaken.trans hnone
  | reset u sched _ env _ => exact absurd env (hrst sched)
  | failed u e _ idle _ => simp [hm] at idle
  | accepted u w i l _ idle _ _ _ => simp [hm] at idle

/-! ### Runs -/

/-- A run goes on from the state its first step leads to. -/
theorem run_succ {s t : State} (h : step s = .next t) (n : Nat) :
    Host.Core.run core (n + 1) s = Host.Core.run core n t := by
  have hcore : core.step s = .next t := h
  simp only [Host.Core.run, hcore]

/-- With a ready sink that does not fail and nothing scheduled, a step of a Busy CTE retires the head event. -/
theorem step_ready {s : State} {e : Event} {rest : List Event} (hm : s.mode = .busy) (hp : s.pending = e :: rest)
    (henv : s.env = []) (hready : s.sReady = true) (hok : s.sinkErr = false) :
    ∃ u : State, step s = .next (u.retire rest) ∧ Streamed s [e] (u.retire rest) ∧ u.mode = .busy ∧ u.done = s.done ∧
      u.err = s.err ∧ u.errCode = s.errCode ∧ u.env = [] ∧ u.sReady = true ∧ u.sinkErr = false := by
  have same := sameMachine_beginStep s []
  rw [step_nil henv]
  cases e with
  | setChk k c =>
    rw [streamStep_setChk (s := s.beginStep []) hm hp]
    exact ⟨_, rfl, streamed_chkPoint same k c rest, by simpa using hm, by simp, by simp, by simp, by simp,
      by simpa using hready, by simpa using hok⟩
  | sample v =>
    rw [streamStep_sample (s := s.beginStep []) hm hp]
    refine ⟨(s.beginStep []).handOver v, ?_, streamed_transfer same v rest, hm, rfl, rfl, rfl, rfl, hready, hok⟩
    simp [hready, hok]

/-- Settles O37, by induction on the events: each step retires one. -/
theorem readySinkStreamsTheWholeCommand : Obligations.ReadySinkStreamsTheWholeCommand := by
  unfold Obligations.ReadySinkStreamsTheWholeCommand
  intro s hm hne henv hready hok
  generalize hp : s.pending = l at hne ⊢
  induction l generalizing s with
  | nil => exact absurd rfl hne
  | cons e rest ih =>
    obtain ⟨u, hstep, hstreamed, hbusy, hdone, herr, hcode, huenv, huready, huok⟩ := step_ready hm hp henv hready hok
    rw [List.length_cons, run_succ hstep]
    by_cases hr : rest = []
    · subst hr
      exact ⟨_, rfl, rfl, rfl, rfl, by simpa using herr, by simpa using hcode, hstreamed⟩
    · obtain ⟨t, hrun, hmode, hpending, htdone, hterr, htcode, hrest⟩ :=
        ih (u.retire rest) (by simp [hr, hbusy]) (by simpa using huenv) (by simpa using huready) (by simpa using huok)
          (by simp) hr
      exact ⟨t, hrun, hmode, hpending, htdone, hterr.trans (by simpa using herr), htcode.trans (by simpa using hcode),
        hstreamed.trans hrest⟩

/-! ### Termination under a fair sink -/

/-- The command has ended, DONE or aborted at the sink (60_exceptions.md rules R154, R155). -/
def Ended (s : State) : Prop :=
  s.mode = .idle ∧
    ((s.done = true ∧ s.err = false ∧ s.errCode = 0#4) ∨ (s.done = false ∧ s.err = true ∧ s.errCode = 3#4))

/-- A stream step keeps the schedule. -/
theorem streamStep_env (s : State) : (streamStep s).env = s.env := by
  obtain ⟨-, h⟩ | ⟨-, -, h⟩ | ⟨k, c, rest, -, -, h⟩ | ⟨v, rest, -, -, -, h⟩ | ⟨v, rest, -, -, -, -, h⟩ |
    ⟨v, rest, -, -, -, -, h⟩ := streamStep_cases s <;> simp [h]

/-- A Busy CTE with DONE, ERR and ERRCODE at 0 that retires an event goes on with the rest or has ended DONE. -/
theorem retire_progress {s : State} {rest : List Event} (hm : s.mode = .busy) (herr : s.err = false)
    (hcode : s.errCode = 0#4) :
    Ended (s.retire rest) ∨ ((s.retire rest).mode = .busy ∧ (s.retire rest).pending = rest) := by
  by_cases hr : rest = []
  · exact .inl ⟨by simp [hr], .inl ⟨by simp [hr], by simpa using herr, by simpa using hcode⟩⟩
  · exact .inr ⟨by simp [hr, hm], by simp⟩

/-- A stream step of a Busy CTE ends the command or goes on with the rest, unless the sink waits. -/
theorem streamStep_progress {s : State} {e : Event} {rest : List Event} (hs : s.Inv) (hm : s.mode = .busy)
    (hp : s.pending = e :: rest) :
    Ended (streamStep s) ∨ ((streamStep s).mode = .busy ∧ (streamStep s).pending = rest) ∨
    (s.sReady = false ∧ s.sinkErr = false ∧ streamStep s = s) := by
  obtain ⟨hdone, herr, hcode⟩ := hs.busy_flags hm
  cases e with
  | setChk k c =>
    rw [streamStep_setChk hm hp, ← or_assoc]
    exact .inl (retire_progress (by simpa using hm) (by simpa using herr) (by simpa using hcode))
  | sample v =>
    rw [streamStep_sample hm hp]
    cases herrLevel : s.sinkErr with
    | true => exact .inl ⟨rfl, .inr ⟨hdone, rfl, rfl⟩⟩
    | false =>
      cases hready : s.sReady with
      | true =>
        rw [← or_assoc]
        exact .inl (retire_progress (s := s.handOver v) hm herr hcode)
      | false => exact .inr (.inr ⟨rfl, rfl, rfl⟩)

/-- From a state that has ended, or has no more events than the schedule has stream steps with the sink ready or failing, a
schedule of stream steps ends the command. -/
theorem run_ends (sched : List EnvEvent) (hsched : ∀ e ∈ sched, ∃ ready err, e = .stream ready err) :
    ∀ s : State, s.Inv → s.env = sched →
      (Ended s ∨ s.mode = .busy ∧ s.pending.length ≤ (sched.filter fun e => decide (e ≠ .stream false false)).length) →
      ∃ t, Host.Core.run core sched.length s = .next t ∧ Ended t := by
  induction sched with
  | nil =>
    rintro s hs - (hend | ⟨hm, hlen⟩)
    · exact ⟨s, rfl, hend⟩
    · exact absurd (List.length_eq_zero_iff.mp (Nat.le_zero.mp hlen)) (hs.busy_iff_pending.mp hm)
  | cons e sched ih =>
    intro s hs henv hprogress
    obtain ⟨⟨r, err, rfl⟩, hrest⟩ := List.forall_mem_cons.mp hsched
    have hstep := step_stream henv
    have hinv := (sameMachine_driveSink s sched r err).quiet.inv hs
    generalize hu : (s.beginStep sched).driveSink r err = u at hstep hinv
    have huenv : u.env = sched := by rw [← hu]; rfl
    rw [List.length_cons, run_succ hstep]
    refine ih hrest _ (step_inv hs hstep) (by rw [streamStep_env, huenv]) ?_
    rcases hprogress with hend | ⟨hm, hlen⟩
    · have huend : Ended u := by rw [← hu]; exact hend
      exact .inl (by rw [streamStep_idle huend.1]; exact huend)
    · have hum : u.mode = .busy := by rw [← hu]; exact hm
      have hup : u.pending = s.pending := by rw [← hu]; rfl
      obtain ⟨x, xs, hp⟩ := List.exists_cons_of_ne_nil (hs.busy_iff_pending.mp hm)
      rw [List.filter_cons] at hlen
      obtain hend | ⟨hbusy, hpending⟩ | ⟨hready, herr, hwait⟩ := streamStep_progress hinv hum (hup.trans hp)
      · exact .inl hend
      · refine .inr ⟨hbusy, ?_⟩
        rw [hp] at hlen
        rw [hpending]
        split_ifs at hlen <;> simp only [List.length_cons] at hlen <;> omega
      · obtain rfl : r = false := by rw [← hready, ← hu]; rfl
        obtain rfl : err = false := by rw [← herr, ← hu]; rfl
        exact .inr ⟨hwait.symm ▸ hum, by simpa [hwait, hup] using hlen⟩

/-- Settles O38, by induction on the schedule: every stream step with the sink ready or failing retires or aborts. -/
theorem everyCommandTerminatesUnderAFairSink : Obligations.EveryCommandTerminatesUnderAFairSink := by
  unfold Obligations.EveryCommandTerminatesUnderAFairSink
  exact fun s hs hm hsched hlen => run_ends s.env hsched s hs rfl (.inr ⟨hm, hlen⟩)

end Sys2Proof.Machine

/-! ## Single stream steps and reset

10_state.md rules R23 to R25 and R42: the next state of a stream step by the sink's levels, driven now or held from before, and
of a reset. -/

namespace Sys2Proof.Machine

/-- A stream step at levels that the sink drives now, or holds with nothing scheduled. -/
theorem step_at_levels {s : State} {r e : Bool} {sched : List EnvEvent}
    (h : s.env = .stream r e :: sched ∨ (s.env = [] ∧ sched = [] ∧ s.sReady = r ∧ s.sinkErr = e)) :
    step s = .next (streamStep ((s.beginStep sched).driveSink r e)) := by
  obtain henv | ⟨henv, rfl, rfl, rfl⟩ := h
  · exact step_stream henv
  · exact step_nil henv

/-- A sample at the head is offered on s_data (rule R23). -/
theorem sValid_sData_sample {s : State} {v : Int} {rest : List Event} (hm : s.mode = .busy)
    (hp : s.pending = .sample v :: rest) : s.sValid = true ∧ s.sData = samplePattern v := by
  simp [State.sValid, State.sData, hm, hp]

/-- Settles O34: the transfer of the head sample, with the last event and with more to come. -/
theorem readySinkTakesTheHeadSample : Obligations.ReadySinkTakesTheHeadSample := by
  unfold Obligations.ReadySinkTakesTheHeadSample
  intro s v rest sched hm hp henv
  rw [step_stream henv, streamStep_sample (s := (s.beginStep sched).driveSink true false) hm hp]
  obtain ⟨⟩ := s
  subst hm
  cases rest <;> rfl

/-- Settles O35: a stream step at a waiting sink changes the agents' affairs only. -/
theorem waitingSinkHoldsTheSample : Obligations.WaitingSinkHoldsTheSample := by
  unfold Obligations.WaitingSinkHoldsTheSample
  intro s v rest sched hm hp hlevels
  obtain ⟨hvalid, hdata⟩ := sValid_sData_sample hm hp
  obtain ⟨hvalid', hdata'⟩ := sValid_sData_sample (s := (s.beginStep sched).driveSink false false) hm hp
  refine ⟨_, ?_, sameMachine_driveSink s sched false false, rfl, hvalid, hvalid', hdata, hdata'⟩
  rw [step_at_levels hlevels, streamStep_sample (s := (s.beginStep sched).driveSink false false) hm hp]
  rfl

/-- Settles O36: a stream step at a failing sink, by the head of pending. -/
theorem sinkErrIsSampledOnlyAtSamples : Obligations.SinkErrIsSampledOnlyAtSamples := by
  unfold Obligations.SinkErrIsSampledOnlyAtSamples
  intro s ready sched hlevels
  rw [step_at_levels hlevels]
  refine ⟨fun v rest hm hp => ?sample, fun k c rest hm hp => ⟨_, rfl, ?chkPoint⟩, fun hm => ⟨_, rfl, ?idle⟩⟩
  case sample =>
    rw [streamStep_sample (s := (s.beginStep sched).driveSink ready true) hm hp]
    rfl
  case chkPoint =>
    rw [streamStep_setChk (s := (s.beginStep sched).driveSink ready true) hm hp]
    cases k <;> simp [hm]
  case idle =>
    rw [streamStep_idle (s := (s.beginStep sched).driveSink ready true) hm]
    exact sameMachine_driveSink s sched ready true

/-- STATUS reads 0 after rst (rule R42). -/
theorem statusWord_takeReset (s : State) : s.takeReset.statusWord = 0#32 := by
  simp [State.statusWord, State.busyBit]

/-- Settles O55: every field of the state after rst. -/
theorem resetPutsEveryRegisterInItsResetValue : Obligations.ResetPutsEveryRegisterInItsResetValue := by
  unfold Obligations.ResetPutsEveryRegisterInItsResetValue
  intro s sched henv
  exact ⟨_, step_rst henv, rfl, rfl, statusWord_takeReset _, rfl, rfl, rfl, rfl, rfl, rfl, rfl, rfl, rfl, rfl, rfl, rfl,
    fun _ => rfl, rfl, rfl, rfl, rfl, rfl⟩

end Sys2Proof.Machine

/-! ## Interleaved transactions

20_memory.md section 3: of a schedule without resets and CMD writes only the stream steps move the stream. -/

namespace Sys2Proof.Machine

/-- The two machines agree on the stream and on what it has counted and checked. -/
structure SameStream (s t : State) : Prop where
  mode : t.mode = s.mode
  pending : t.pending = s.pending
  sunk : t.sunk = s.sunk
  count : t.sampleCount = s.sampleCount
  metaChk : t.metaChk = s.metaChk
  progChk : t.progChk = s.progChk

theorem SameStream.trans {s t u : State} (h : SameStream s t) (h' : SameStream t u) : SameStream s u :=
  ⟨h'.mode.trans h.mode, h'.pending.trans h.pending, h'.sunk.trans h.sunk, h'.count.trans h.count,
    h'.metaChk.trans h.metaChk, h'.progChk.trans h.progChk⟩

theorem SameStream.symm {s t : State} (h : SameStream s t) : SameStream t s :=
  ⟨h.mode.symm, h.pending.symm, h.sunk.symm, h.count.symm, h.metaChk.symm, h.progChk.symm⟩

/-- A quiet step leaves the stream alone. -/
theorem QuietStep.sameStream {s t : State} (h : QuietStep s t) : SameStream s t :=
  ⟨h.mode, h.pending, h.sunk, h.count, h.metaChk, h.progChk⟩

/-- Retiring an event depends on the stream only. -/
theorem SameStream.retire {s t : State} (h : SameStream s t) (rest : List Event) :
    SameStream (s.retire rest) (t.retire rest) := by
  constructor <;> simp [h.mode, h.sunk, h.count, h.metaChk, h.progChk]

/-- A stream step depends on the stream and the levels only. -/
theorem SameStream.streamStep {s t : State} (h : SameStream s t) (hready : t.sReady = s.sReady)
    (herr : t.sinkErr = s.sinkErr) : SameStream (streamStep s) (streamStep t) := by
  rcases mode_idle_or_busy s with hm | hm
  · rw [streamStep_idle hm, streamStep_idle (h.mode.trans hm)]
    exact h
  · rcases hp : s.pending with _ | ⟨v | ⟨k, c⟩, rest⟩
    · have hs : Machine.streamStep s = s := by simp [Machine.streamStep, hm, hp]
      have ht : Machine.streamStep t = t := by simp [Machine.streamStep, h.mode.trans hm, h.pending.trans hp]
      rwa [hs, ht]
    · rw [streamStep_sample hm hp, streamStep_sample (h.mode.trans hm) (h.pending.trans hp), herr, hready]
      have hover : SameStream (s.handOver v) (t.handOver v) :=
        ⟨h.mode, h.pending, by simp [h.sunk], by simp [h.count], h.metaChk, h.progChk⟩
      split_ifs
      · exact ⟨rfl, rfl, h.sunk, h.count, h.metaChk, h.progChk⟩
      · exact hover.retire rest
      · exact h
    · rw [streamStep_setChk hm hp, streamStep_setChk (h.mode.trans hm) (h.pending.trans hp)]
      have hchk : SameStream (s.applyChk k c) (t.applyChk k c) := by
        cases k <;> exact ⟨h.mode, h.pending, h.sunk, h.count, by simp [h.metaChk], by simp [h.progChk]⟩
      exact hchk.retire rest

/-- The entry of the schedule is a stream step. -/
def isStream : EnvEvent → Bool
  | .stream _ _ => true
  | .bus _ => false
  | .rst => false

/-- A host transaction other than a CMD write is one quiet step. -/
theorem step_bus_quiet {s : State} {tx : BusTx} {rest : List EnvEvent} (henv : s.env = .bus tx :: rest)
    (hcmd : ∀ w, EnvEvent.bus tx ≠ hostCMD w) : ∃ t, step s = .next t ∧ SameStream s t ∧ t.env = rest := by
  rcases hc : classify tx with w | a
  · obtain rfl := (classify_command_iff tx w).mp hc
    exact absurd rfl (hcmd w)
  · obtain ⟨-, -, -, -, -, -, -, -, -, -, -, hrest, -⟩ := perform_frame (s.beginStep rest) a
    exact ⟨_, step_access henv hc, (quietStep_perform s rest hc).sameStream, hrest⟩

/-- Two machines with the same stream, one running a schedule and one running its stream steps only, end with the same stream. -/
theorem run_stream_only (sched : List EnvEvent) (hsched : ∀ e ∈ sched, e ≠ .rst ∧ ∀ w, e ≠ hostCMD w) :
    ∀ s u : State, SameStream s u → s.env = sched → u.env = sched.filter isStream →
      ∃ t v, Host.Core.run core sched.length s = .next t ∧
        Host.Core.run core (sched.filter isStream).length u = .next v ∧ SameStream t v := by
  induction sched with
  | nil => exact fun s u h _ _ => ⟨s, u, rfl, rfl, h⟩
  | cons e sched ih =>
    intro s u h hs hu
    obtain ⟨⟨hrst, hcmd⟩, hrest⟩ := List.forall_mem_cons.mp hsched
    rw [List.length_cons]
    cases e with
    | rst => exact absurd rfl hrst
    | bus tx =>
      obtain ⟨s', hstep, hsame, henv⟩ := step_bus_quiet hs hcmd
      rw [run_succ hstep]
      exact ih hrest s' u (hsame.symm.trans h) henv hu
    | stream r err =>
      rw [List.filter_cons_of_pos rfl] at hu ⊢
      rw [List.length_cons, run_succ (step_stream hs), run_succ (step_stream hu)]
      refine ih hrest _ _ (SameStream.streamStep ?_ rfl rfl) ?_ ?_
      · exact ((sameMachine_driveSink s _ r err).quiet.sameStream.symm.trans h).trans
          (sameMachine_driveSink u _ r err).quiet.sameStream
      · rw [streamStep_env]; rfl
      · rw [streamStep_env]; rfl

/-- Settles O53, by induction on the schedule: transactions are quiet, and stream steps depend on the stream and the levels they
drive only. -/
theorem interleavedTransactionsLeaveTheStreamAlone : Obligations.InterleavedTransactionsLeaveTheStreamAlone := by
  unfold Obligations.InterleavedTransactionsLeaveTheStreamAlone
  intro s t u sched hsched ht hu
  replace hu : Host.Core.run core (sched.filter isStream).length { s with env := sched.filter isStream } = .next u := hu
  obtain ⟨t', u', ht', hu', h⟩ := run_stream_only sched hsched { s with env := sched }
    { s with env := sched.filter isStream } ⟨rfl, rfl, rfl, rfl, rfl, rfl⟩ rfl rfl
  obtain rfl := Host.Outcome.next.inj (ht.symm.trans ht')
  obtain rfl := Host.Outcome.next.inj (hu.symm.trans hu')
  exact ⟨h.sunk.symm, h.count.symm, h.metaChk.symm, h.progChk.symm, h.pending.symm, h.mode.symm⟩

end Sys2Proof.Machine

/-! ## Host transactions

10_state.md rules R29 to R35, 20_memory.md rules R51 to R56 and 70_reset_and_hazards.md rule R176: what register reads and writes
do, which transactions are unsupported, what a read leaves unchanged and what a write does while Busy. -/

namespace Sys2Proof.Machine

/-! ### Register reads and writes -/

/-- A bit of a word whose lowest bit is appended last. -/
theorem getLsbD_append_ofBool {n : Nat} (x : BitVec n) (b : Bool) (i : Nat) :
    (x ++ BitVec.ofBool b).getLsbD i = if i = 0 then b else x.getLsbD (i - 1) := by
  rw [BitVec.getLsbD_append]
  by_cases hi : i = 0 <;> simp [hi]

/-- BUSY mirrors the mode (rule R37). -/
theorem busyBit_eq (s : State) : s.busyBit = decide (s.mode = .busy) := by
  unfold State.busyBit
  cases s.mode <;> rfl

/-- STATUS has its fields at their bits (rule R30). -/
theorem readRegister_status_fields (s : State) :
    (readRegister s .status).getLsbD 0 = decide (s.mode = .busy) ∧ (readRegister s .status).getLsbD 1 = s.done ∧
    (readRegister s .status).getLsbD 2 = s.err ∧ (readRegister s .status).getLsbD 3 = s.wwb ∧
    (readRegister s .status).extractLsb' 4 4 = s.errCode := by
  refine ⟨?_, ?_, ?_, ?_, ?_⟩
  · simp only [readRegister, State.statusWord, getLsbD_append_ofBool, busyBit_eq, if_true]
  · simp only [readRegister, State.statusWord, getLsbD_append_ofBool]
    rfl
  · simp only [readRegister, State.statusWord, getLsbD_append_ofBool]
    rfl
  · simp only [readRegister, State.statusWord, getLsbD_append_ofBool]
    rfl
  · simp only [readRegister, State.statusWord, BitVec.extractLsb'_append_eq_of_le, Nat.reduceLeDiff, Nat.reduceSub]
    exact BitVec.extractLsb'_append_eq_right

/-- LENGTH has L in its low bits (rule R31). -/
theorem readRegister_length_field (s : State) : (readRegister s .length).extractLsb' 0 17 = s.length := by
  rw [readRegister, BitVec.setWidth_eq_append (by decide)]
  exact BitVec.extractLsb'_append_eq_right

/-- CONFIG has LOAD_RUN and IRQ_EN in its low bits (rule R32). -/
theorem readRegister_config_fields (s : State) :
    (readRegister s .config).getLsbD 0 = s.loadRun ∧ (readRegister s .config).getLsbD 1 = s.irqEn := by
  constructor <;> (simp only [readRegister, getLsbD_append_ofBool]; rfl)

/-- CHECKSUM has its two fields in its low half (rule R33). -/
theorem readRegister_checksum_fields (s : State) :
    (readRegister s .checksum).extractLsb' 0 8 = s.metaChk ∧ (readRegister s .checksum).extractLsb' 8 8 = s.progChk := by
  constructor
  · exact BitVec.extractLsb'_append_eq_right
  · rw [readRegister, BitVec.extractLsb'_append_eq_of_le (by decide)]
    exact BitVec.extractLsb'_append_eq_right

/-- Settles O43: the step of each read, and the fields of what it answers. -/
theorem registerReadsReturnTheirFields : Obligations.RegisterReadsReturnTheirFields := by
  unfold Obligations.RegisterReadsReturnTheirFields
  refine fun s rest => ⟨step_hostRD_register (by decide) rfl, fun h => ⟨_, step_hostRD_register (by decide) rfl h, ?status⟩,
    fun h => ⟨_, step_hostRD_register (by decide) rfl h, readRegister_length_field s, readRegister_length_reserved s⟩,
    fun h => ⟨_, step_hostRD_register (by decide) rfl h, ?config⟩,
    fun h => ⟨_, step_hostRD_register (by decide) rfl h, ?checksum⟩, step_hostRD_register (by decide) rfl⟩
  case status =>
    obtain ⟨hbusy, hdone, herr, hwwb, hcode⟩ := readRegister_status_fields s
    exact ⟨hbusy, hdone, herr, hwwb, hcode, readRegister_status_reserved s⟩
  case config =>
    obtain ⟨hrun, hirq⟩ := readRegister_config_fields s
    exact ⟨hrun, hirq, readRegister_config_reserved s⟩
  case checksum =>
    obtain ⟨hmeta, hprog⟩ := readRegister_checksum_fields s
    exact ⟨hmeta, hprog, readRegister_checksum_reserved s⟩

/-- Settles O45, from the access a STATUS write asks for, performed in either mode. -/
theorem statusWriteClearsBitsWrittenAsOne : Obligations.StatusWriteClearsBitsWrittenAsOne := by
  unfold Obligations.StatusWriteClearsBitsWrittenAsOne
  exact fun s rest v henv => step_hostWR_register (x := .writeStatus v) (by decide) rfl rfl henv

/-- A LENGTH write while Idle sets LENGTH (rule R31). -/
theorem perform_writeLength_idle {s : State} (h : s.mode = .idle) (v : Word) :
    perform s (.writeLength v) = (s.setLength v).respond .okay none := by
  simp [perform, whileIdle, h]

/-- LENGTH reads back the low 17 bits written (rule R31). -/
theorem readRegister_setLength (s : State) (v : Word) : readRegister (s.setLength v) .length = v &&& 0x0001FFFF#32 := by
  have hmask : ∀ i < 32, (0x0001FFFF#32).getLsbD i = decide (i < 17) := by decide
  refine BitVec.eq_of_getLsbD_eq fun i hi => ?_
  rw [BitVec.getLsbD_and, hmask i hi, readRegister, State.setLength_length, BitVec.getLsbD_setWidth,
    BitVec.getLsbD_extractLsb']
  simp [hi, Bool.and_comm]

/-- CONFIG reads back the low 2 bits written (rule R32). -/
theorem readRegister_setConfig (s : State) (v : Word) : readRegister (s.setConfig v) .config = v &&& 0x00000003#32 := by
  have hmask : ∀ i < 32, (0x00000003#32).getLsbD i = decide (i < 2) := by decide
  refine BitVec.eq_of_getLsbD_eq fun i hi => ?_
  rw [BitVec.getLsbD_and, hmask i hi, readRegister, getLsbD_append_ofBool, getLsbD_append_ofBool]
  obtain rfl | rfl | hge : i = 0 ∨ i = 1 ∨ 2 ≤ i := by omega
  · simp
  · simp
  · rw [if_neg (by omega), if_neg (by omega), decide_eq_false (by omega), Bool.and_false, BitVec.getLsbD_zero]

/-- A register write and the read after it, as a run of two steps. -/
theorem run_write_read {s t : State} {rest : List EnvEvent} {a : BusAddr} {v : Word} {x : Access} (hlt : a.toNat < 0x20)
    (hal : a.toNat % 4 = 0) (hx : writeRequest v (regAt a.toNat) = .access x)
    (henv : s.env = hostWR a v :: hostRD a :: rest) (ht : perform (s.beginStep (hostRD a :: rest)) x = t)
    (htenv : t.env = hostRD a :: rest) :
    Host.Core.run core 2 s =
      .next ((t.beginStep rest).respond .okay (some (readRegister t (regAt a.toNat)))) := by
  rw [run_succ (step_hostWR_register hlt hal hx henv), ht, run_succ (step_hostRD_register hlt hal htenv)]
  rfl

/-- Settles O47, as the run of the write and the read. -/
theorem lengthAndConfigWritesReadBack : Obligations.LengthAndConfigWritesReadBack := by
  unfold Obligations.LengthAndConfigWritesReadBack
  refine fun s rest v hm => ⟨fun henv => ?length, fun henv => ?config⟩
  case length =>
    rw [run_write_read (by decide) rfl rfl henv (perform_writeLength_idle (s := s.beginStep _) hm v) rfl,
      ← readRegister_setLength s v]
    rfl
  case config =>
    rw [run_write_read (by decide) rfl rfl henv (perform_writeConfig_idle (s := s.beginStep _) hm v) rfl,
      ← readRegister_setConfig s v]
    rfl

/-! ### Supported and unsupported transactions -/

/-- The transactions that get ERROR (rule R54): in the hole, in the register window with a size other than 4 or misaligned, in the
buffer with size 4 and misaligned, of a size neither 1 nor 4. -/
def Unsupported (tx : BusTx) : Prop :=
  (0x00020 ≤ tx.addr.toNat ∧ tx.addr.toNat ≤ 0x0FFFF) ∨
  (tx.addr.toNat < 0x20 ∧ (tx.size ≠ 4 ∨ tx.addr.toNat % 4 ≠ 0)) ∨
  (0x10000 ≤ tx.addr.toNat ∧ tx.size = 4 ∧ tx.addr.toNat % 4 ≠ 0) ∨ (tx.size ≠ 1 ∧ tx.size ≠ 4)

/-- An unsupported transaction is classified as one. -/
theorem classify_unsupported {tx : BusTx} (h : Unsupported tx) : classify tx = .access .unsupported := by
  unfold Unsupported at h
  unfold classify Config.regWindowEnd Config.bufBase
  dsimp only
  by_cases hreg : tx.addr.toNat < 0x20
  · rw [if_pos hreg, if_neg (by omega)]
  · rw [if_neg hreg]
    by_cases hhole : tx.addr.toNat < 0x10000
    · rw [if_pos hhole]
    · rw [if_neg hhole, if_neg (by omega), if_neg (by omega)]

/-- Every other transaction accesses a register, a byte or a word of the buffer (rules R51, R54). -/
theorem supported_cases {a : BusAddr} {size : Nat} {write : Bool} {v : Word} (h : ¬ Unsupported ⟨a, size, write, v⟩) :
    (size = 4 ∧ a.toNat < 0x20 ∧ a.toNat % 4 = 0) ∨ (size = 1 ∧ 0x10000 ≤ a.toNat) ∨
    (size = 4 ∧ 0x10000 ≤ a.toNat ∧ a.toNat % 4 = 0) := by
  unfold Unsupported at h
  dsimp only at h
  omega

/-- A supported write to a register is not classified as unsupported. -/
theorem writeRequest_ne_unsupported (v : Word) (r : Reg) : writeRequest v r ≠ .access .unsupported := by
  cases r <;> simp [writeRequest]

/-- A supported transaction is not classified as unsupported. -/
theorem classify_ne_unsupported {tx : BusTx} (h : ¬ Unsupported tx) : classify tx ≠ .access .unsupported := by
  obtain ⟨a, size, write, v⟩ := tx
  obtain ⟨rfl, hlt, hal⟩ | ⟨rfl, ha⟩ | ⟨rfl, ha, hal⟩ := supported_cases h
  · cases write with
    | false => simp [classify_read_register hlt hal]
    | true => rw [classify_write_register hlt hal]; exact writeRequest_ne_unsupported v _
  · cases write <;> simp [classify_buffer_byte ha]
  · cases write <;> simp [classify_buffer_word ha hal]

/-- A supported access answers OKAY (rule R22). -/
theorem perform_okay {a : Access} (ha : a ≠ .unsupported) (s : State) :
    ∃ rdata, (perform s a).busOut = some ⟨.okay, rdata⟩ := by
  cases a with
  | unsupported => exact absurd rfl ha
  | _ => exact ⟨_, rfl⟩

/-- An accept keeps the answer of its transaction. -/
theorem accept_busOut (s : State) (i : Instr) (r : Except CmdError (List Event)) : (accept i r s).busOut = s.busOut := by
  rcases mode_idle_or_busy s with hm | hm
  · obtain ⟨e, -, h⟩ | ⟨l, -, h⟩ := accept_idle_cases hm i r <;> rw [h]
    · rfl
    · cases l <;> rfl
  · rw [accept_busy hm, State.dropWrite_busOut]

/-- The accept of an illegal word keeps the answer of its transaction. -/
theorem acceptIllegal_busOut (s : State) : (acceptIllegal s).busOut = s.busOut := by
  rcases mode_idle_or_busy s with hm | hm
  · rw [acceptIllegal_idle hm]; rfl
  · rw [acceptIllegal_busy hm, State.dropWrite_busOut]

/-- A CMD write answers OKAY, whatever its word (rule R29). -/
theorem step_command_okay {s : State} {w : Word} {rest : List EnvEvent} (henv : s.env = hostCMD w :: rest) :
    ∃ t, step s = .next t ∧ t.busOut = some ⟨.okay, none⟩ := by
  cases hd : decode w with
  | ok i => exact ⟨_, (step_command henv hd).trans (exec_eq_accept i _), accept_busOut _ i _⟩
  | error e => exact ⟨_, step_illegal henv hd, acceptIllegal_busOut _⟩

/-- Settles O49: an unsupported transaction is an access without effect, and every other one is a command or answers OKAY. -/
theorem unsupportedTransactionsGetErrorAndChangeNothing : Obligations.UnsupportedTransactionsGetErrorAndChangeNothing := by
  unfold Obligations.UnsupportedTransactionsGetErrorAndChangeNothing
  refine fun s rest tx henv => ⟨fun h => step_access henv (classify_unsupported h), fun h => ?_⟩
  rcases hc : classify tx with w | a
  · obtain rfl := (classify_command_iff tx w).mp hc
    obtain ⟨t, hstep, hout⟩ := step_command_okay henv
    exact ⟨t, _, hstep, hout, rfl⟩
  · have ha : a ≠ .unsupported := by
      rintro rfl
      exact classify_ne_unsupported h hc
    obtain ⟨rdata, hout⟩ := perform_okay ha (s.beginStep rest)
    exact ⟨_, _, step_access henv hc, hout, rfl⟩

/-! ### Reads -/

/-- The access has no effect but its answer. -/
def Access.IsRead : Access → Prop
  | .unsupported => True
  | .readReg _ => True
  | .readByte _ => True
  | .readWord _ => True
  | .writeStatus _ => False
  | .writeLength _ => False
  | .writeConfig _ => False
  | .writeIgnored => False
  | .writeByte _ _ => False
  | .writeWord _ _ => False

/-- What a read answers (rules R29 to R35, R53, R54). -/
def readAnswer (s : State) : Access → Resp × Word
  | .readReg r => (.okay, readRegister s r)
  | .readByte a => (.okay, (s.byteAt a).setWidth 32)
  | .readWord a => (.okay, s.wordAt a)
  | _ => (.error, 0#32)

/-- A read does nothing but answer. -/
theorem perform_isRead {a : Access} (ha : a.IsRead) (s : State) :
    perform s a = s.respond (readAnswer s a).1 (some (readAnswer s a).2) := by
  cases a with
  | unsupported | readReg r | readByte a | readWord a => rfl
  | writeStatus | writeLength | writeConfig | writeIgnored | writeByte | writeWord => exact ha.elim

/-- What a read answers does not depend on the schedule, the step count or the last answer. -/
theorem readAnswer_beginStep (s : State) (rest : List EnvEvent) (a : Access) :
    readAnswer (s.beginStep rest) a = readAnswer s a := by
  cases a with
  | readReg r => rw [readAnswer, readRegister_beginStep, readAnswer]
  | _ => rfl

/-- The aligned offset 0x04 is STATUS (rule R28). -/
theorem regAt_eq_status_iff {a : BusAddr} : regAt a.toNat = .status ↔ a = 0x04#17 := by
  constructor
  · intro h
    refine BitVec.eq_of_toNat_eq (?_ : a.toNat = 4)
    unfold regAt at h
    split_ifs at h with h0 h4
    exact h4
  · rintro rfl
    rfl

/-- A read transaction is classified as a read, and as one of STATUS exactly at its address with its size. -/
theorem classify_read {tx : BusTx} (hw : tx.write = false) :
    ∃ a, classify tx = .access a ∧ a.IsRead ∧ (a = .readReg .status ↔ tx.addr = 0x04#17 ∧ tx.size = 4) := by
  obtain ⟨a, size, write, v⟩ := tx
  obtain rfl : write = false := hw
  by_cases hun : Unsupported ⟨a, size, false, v⟩
  · refine ⟨_, classify_unsupported hun, trivial, by simp, ?_⟩
    rintro ⟨rfl, rfl⟩
    simp [Unsupported] at hun
  · obtain ⟨rfl, hlt, hal⟩ | ⟨rfl, ha⟩ | ⟨rfl, ha, hal⟩ := supported_cases hun
    · exact ⟨_, classify_read_register hlt hal, trivial, by simp [regAt_eq_status_iff]⟩
    · exact ⟨_, classify_buffer_byte ha false v, trivial, by simp⟩
    · refine ⟨_, classify_buffer_word ha hal false v, trivial, by simp, ?_⟩
      rintro ⟨rfl, -⟩
      simp at ha

/-- Settles O51: the step of a read changes nothing but the answer. -/
theorem readsHaveNoSideEffect : Obligations.ReadsHaveNoSideEffect := by
  unfold Obligations.ReadsHaveNoSideEffect
  intro s t rest tx henv hw hstep
  obtain ⟨a, hc, ha, -⟩ := classify_read hw
  rw [step_access henv hc, perform_isRead ha] at hstep
  obtain rfl := Host.Outcome.next.inj hstep
  exact ⟨sameMachine_respond s rest _ _, rfl, rfl, rfl⟩

/-! ### WWB -/

/-- A transaction classified as a STATUS write is the host's write to 0x04 (rules R28, R54). -/
theorem eq_hostWR_of_classify_writeStatus {tx : BusTx} {v : Word} (h : classify tx = .access (.writeStatus v)) :
    EnvEvent.bus tx = hostWR 0x04#17 v := by
  have hsup : ¬ Unsupported tx := by
    intro hun
    rw [classify_unsupported hun] at h
    cases h
  have hreg : ∀ r w, writeRequest w r = .access (.writeStatus v) → r = .status ∧ w = v := by
    intro r w
    cases r <;> simp [writeRequest]
  obtain ⟨a, size, write, w⟩ := tx
  obtain ⟨rfl, hlt, hal⟩ | ⟨rfl, ha⟩ | ⟨rfl, ha, hal⟩ := supported_cases hsup
  · cases write with
    | false => simp [classify_read_register hlt hal] at h
    | true =>
      rw [classify_write_register hlt hal] at h
      obtain ⟨hr, rfl⟩ := hreg _ _ h
      obtain rfl := regAt_eq_status_iff.mp hr
      rfl
  · cases write <;> simp [classify_buffer_byte ha] at h
  · cases write <;> simp [classify_buffer_word ha hal] at h

/-- A bus access clears WWB only as a STATUS write with bit 3 set (rule R30). -/
theorem perform_clears_wwb {s : State} {a : Access} (hs : s.wwb = true) (ht : (perform s a).wwb = false) :
    ∃ v, a = .writeStatus v ∧ v.getLsbD 3 = true := by
  obtain ⟨-, -, hkept | hset⟩ | ⟨v, rfl, -, -, hwwb⟩ := perform_status s a
  · rw [hkept, hs] at ht
    cases ht
  · rw [hset] at ht
    cases ht
  · rw [hwwb, hs] at ht
    exact ⟨v, rfl, by simpa [clearedByOne] using ht⟩

/-- An accept does not clear WWB (rule R37). -/
theorem accept_wwb {s : State} (hs : s.wwb = true) (i : Instr) (r : Except CmdError (List Event)) :
    (accept i r s).wwb = true := by
  rcases mode_idle_or_busy s with hm | hm
  · obtain ⟨e, -, h⟩ | ⟨l, -, h⟩ := accept_idle_cases hm i r <;> rw [h]
    · exact hs
    · cases l <;> exact hs
  · rw [accept_busy hm, State.dropWrite_wwb]

/-- The accept of an illegal word does not clear WWB (30_encoding.md rule R77). -/
theorem acceptIllegal_wwb {s : State} (hs : s.wwb = true) : (acceptIllegal s).wwb = true := by
  rcases mode_idle_or_busy s with hm | hm
  · rw [acceptIllegal_idle hm]
    exact hs
  · rw [acceptIllegal_busy hm, State.dropWrite_wwb]

/-- A stream step keeps WWB. -/
theorem streamStep_wwb (s : State) : (streamStep s).wwb = s.wwb := by
  obtain ⟨-, h⟩ | ⟨-, -, h⟩ | ⟨k, c, rest, -, -, h⟩ | ⟨v, rest, -, -, -, h⟩ | ⟨v, rest, -, -, -, -, h⟩ |
    ⟨v, rest, -, -, -, -, h⟩ := streamStep_cases s <;> simp [h]

/-- Settles O46, by the kinds of a step. -/
theorem wwbIsStickyUntilClearedOrReset : Obligations.WwbIsStickyUntilClearedOrReset := by
  unfold Obligations.WwbIsStickyUntilClearedOrReset
  intro s t hs hstep ht
  obtain ⟨rest, r, e, -, rfl⟩ | ⟨rest, henv, -⟩ | ⟨rest, w, i, -, -, rfl⟩ | ⟨rest, w, e, -, -, rfl⟩ |
    ⟨rest, tx, a, henv, hc, rfl⟩ := step_cases hstep
  · rw [streamStep_wwb] at ht
    simp [hs] at ht
  · exact .inl ⟨rest, henv⟩
  · rw [accept_wwb (s := (s.beginStep rest).respond .okay none) hs] at ht
    cases ht
  · rw [acceptIllegal_wwb (s := (s.beginStep rest).respond .okay none) hs] at ht
    cases ht
  · obtain ⟨v, rfl, hv⟩ := perform_clears_wwb (s := s.beginStep rest) hs ht
    exact .inr ⟨v, rest, by rw [henv, eq_hostWR_of_classify_writeStatus hc], hv⟩

/-! ### Transactions while Busy -/

/-- A CMD write while Busy is dropped, whatever its word (rule R29). -/
theorem step_command_busy {s : State} {w : Word} {rest : List EnvEvent} (hm : s.mode = .busy)
    (henv : s.env = hostCMD w :: rest) : step s = .next ((s.beginStep rest).respond .okay none).dropWrite := by
  cases hd : decode w with
  | ok i => rw [step_command henv hd, exec_eq_accept, accept_busy (s := (s.beginStep rest).respond .okay none) hm]
  | error e => rw [step_illegal henv hd, acceptIllegal_busy (s := (s.beginStep rest).respond .okay none) hm]

/-- A write that is taken only while Idle is dropped while Busy (70_reset_and_hazards.md rule R176). -/
theorem whileIdle_busy {s : State} (hm : s.mode = .busy) (effect : State) : whileIdle s effect = s.dropWrite := by
  simp [whileIdle, hm]

/-- A write to CMD, LENGTH, CONFIG or the buffer while Busy is dropped with the answer OKAY. -/
theorem step_write_busy {s : State} {rest : List EnvEvent} {tx : BusTx} (hm : s.mode = .busy) (henv : s.env = .bus tx :: rest)
    (hw : tx.write = true)
    (haddr : (tx.size = 4 ∧ tx.addr ∈ [0x00#17, 0x08#17, 0x0C#17]) ∨
      (0x10000 ≤ tx.addr.toNat ∧ (tx.size = 1 ∨ (tx.size = 4 ∧ tx.addr.toNat % 4 = 0)))) :
    step s = .next ((s.beginStep rest).respond .okay none).dropWrite := by
  obtain ⟨a, size, write, v⟩ := tx
  obtain rfl : write = true := hw
  have hdrop (effect : State) : whileIdle (s.beginStep rest) effect = (s.beginStep rest).dropWrite :=
    whileIdle_busy (s := s.beginStep rest) hm effect
  simp only [List.mem_cons, List.not_mem_nil, or_false] at haddr
  obtain ⟨rfl, rfl | rfl | rfl⟩ | ⟨ha, rfl | ⟨rfl, hal⟩⟩ := haddr
  · exact step_command_busy hm henv
  · rw [step_hostWR_register (x := .writeLength v) (by decide) rfl rfl henv, perform, hdrop]
    rfl
  · rw [step_hostWR_register (x := .writeConfig v) (by decide) rfl rfl henv, perform, hdrop]
    rfl
  · rw [step_access henv (classify_buffer_byte ha true v), if_pos rfl, perform, hdrop]
    rfl
  · rw [step_access henv (classify_buffer_word ha hal true v), if_pos rfl, perform, hdrop]
    rfl

/-- STATUS while Idle is STATUS while Busy without its BUSY bit (rule R30). -/
theorem statusWord_idle (s : State) : { s with mode := .idle }.statusWord = s.statusWord &&& 0xFFFFFFFE#32 := by
  have hmask : ∀ i < 32, (0xFFFFFFFE#32).getLsbD i = decide (i ≠ 0) := by decide
  refine BitVec.eq_of_getLsbD_eq fun i hi => ?_
  simp only [BitVec.getLsbD_and, hmask i hi, State.statusWord, getLsbD_append_ofBool]
  by_cases h0 : i = 0
  · simp [h0, State.busyBit]
  · simp [h0]

/-- A read answers the same in either mode, but for the BUSY bit. -/
theorem readAnswer_idle (s : State) (a : Access) :
    readAnswer { s with mode := .idle } a =
      ((readAnswer s a).1,
        if a = .readReg .status then (readAnswer s a).2 &&& 0xFFFFFFFE#32 else (readAnswer s a).2) := by
  cases a with
  | readReg r =>
    cases r with
    | status => exact congrArg (Prod.mk Resp.okay) (statusWord_idle s)
    | _ => rfl
  | _ => rfl

/-- Settles O48: dropped writes, the STATUS write, ignored writes and reads. -/
theorem writesWhileBusyAreDroppedAndSetWwb : Obligations.WritesWhileBusyAreDroppedAndSetWwb := by
  unfold Obligations.WritesWhileBusyAreDroppedAndSetWwb
  refine fun s rest tx hm henv => ⟨fun hw haddr => step_write_busy hm henv hw haddr, fun hw hsize haddr => ?status,
    fun hw hsize haddr => ?ignored, fun hw => ?read⟩
  case status =>
    obtain ⟨a, size, write, v⟩ := tx
    obtain ⟨rfl, rfl, rfl⟩ : write = true ∧ size = 4 ∧ a = 0x04#17 := ⟨hw, hsize, haddr⟩
    exact step_hostWR_register (x := .writeStatus v) (by decide) rfl rfl henv
  case ignored =>
    obtain ⟨a, size, write, v⟩ := tx
    obtain ⟨rfl, rfl⟩ : write = true ∧ size = 4 := ⟨hw, hsize⟩
    simp only [List.mem_cons, List.not_mem_nil, or_false] at haddr
    rcases haddr with rfl | rfl | rfl | rfl <;>
      exact step_hostWR_register (x := .writeIgnored) (by decide) rfl rfl henv
  case read =>
    obtain ⟨a, hc, ha, hstatus⟩ := classify_read hw
    refine ⟨(readAnswer s a).1, (readAnswer s a).2, ?_, ?_⟩
    · rw [step_access henv hc, perform_isRead ha, readAnswer_beginStep]
    · rw [step_access (s := { s with mode := .idle }) henv hc, perform_isRead ha, readAnswer_beginStep, readAnswer_idle]
      simp only [hstatus]

end Sys2Proof.Machine
